-- ==== Sys2Proof/Word.lean ====
section
/-! DEFINITION. The machine words of the TLCS-900/H2: the addressable unit and the address word.
Spec: 00_scope.md R7, R8; 20_memory.md R70. -/

namespace Sys2Proof

/-- The addressable unit, 8 bits (20_memory.md R70). -/
abbrev Byte := BitVec 8

/-- A 32-bit effective address or program counter value, of which 24 bits reach the bus
(20_memory.md R72, 10_state.md R37). -/
abbrev Addr := BitVec 32

end Sys2Proof
end

