-- ==== Sys2Proof/Config.lean ====
section
/-! DEFINITION. What the 900/H2 fixes once for all (00_scope.md R5), the source of every value the spec
calls undefined, and the behaviour of devices (the parameters `UndefDraw` and, in part, `MemoryMap` of
00_scope.md R6). -/

namespace Sys2Proof

/-- What a device sees of the core: one byte read or written at a bus address, or reset. -/
inductive DeviceAccess where
  | read (address : Nat)
  | write (address : Nat) (value : Byte)
  | reset
  deriving DecidableEq, Repr

namespace Config

/-- The source of undefined values: draw number k is `undefDraw k`, of which a use takes as many low
bits as it needs. It has no body, so no proof can learn a draw's value or relate two draws
(00_scope.md R9 undef(k); decision D11; log entry 5). -/
opaque undefDraw : Nat → BitVec 32

/-- What a read at a bus address answers where the memory map has a device or nothing, after the
accesses of such addresses so far, the latest first: the read behaviour of the parameter `MemoryMap`
(00_scope.md R6, 20_memory.md R71, R87; decision D21; log entry 31). It has no body: it stands for every
device, side effects of reads and writes among them, since the accesses so far are its argument. -/
opaque deviceByte : List DeviceAccess → Nat → Byte

/-- The fixed base of the vector table, which is also the reset vector (60_exceptions.md R426). -/
def vectorBase : Addr := 0xFFFF00#32

/-- The number of prefetched bytes, and of bytes in each window of 20_memory.md R85. -/
def queueBytes : Nat := 12

/-- What a byte of memory that nothing has written reads as. DESIGN CHOICE, unsafe: the spec gives
RAM no contents after reset (70_reset_and_hazards.md R461; log entry 3). -/
def unlistedByte : Byte := 0x00#8

/-- The longest instruction, in bytes (30_encoding.md R100). -/
def maxLength : Nat := 7

end Config

end Sys2Proof
end

