-- ==== Sys2Proof/Syntax.lean ====
section
/-! DEFINITION. The instructions of the TLCS-900/H2 as data: operand sizes, condition codes, register
names, addressing modes, control registers, and one constructor of `Instr` for each of the 306 rows of
spec/opcode_table.json. Encodings are in Decode.lean, meanings in Machine/. -/

namespace Sys2Proof

/-- An operand size: byte (B), word (W) or long word (L) (00_scope.md R8). -/
inductive Size where
  | byte
  | word
  | long
  deriving DecidableEq, Repr

/-- The size in bytes, `sz` of 00_scope.md R8. -/
def Size.bytes : Size → Nat
  | .byte => 1
  | .word => 2
  | .long => 4

/-- The size in bits, `n` of 00_scope.md R8. -/
def Size.bits : Size → Nat
  | .byte => 8
  | .word => 16
  | .long => 32

/-- The sixteen condition codes, in the order of their codes (30_encoding.md R118). -/
inductive Cond where
  | f | lt | le | ule | ov | mi | z | c
  | t | ge | gt | ugt | nov | pl | nz | nc
  deriving DecidableEq, Repr

/-- The groups of the register map (10_state.md R23): a bank named by its number, the previous bank,
the current bank, and the four unbanked registers. -/
inductive RegGroup where
  | bank (b : BitVec 2)
  | prev
  | cur
  | unbanked
  deriving DecidableEq, Repr

/-- A 32-bit register of the register map: its group and its place in it (XWA, XBC, XDE, XHL; or
XIX, XIY, XIZ, XSP) (10_state.md R23). -/
structure LongReg where
  group : RegGroup
  reg : BitVec 2
  deriving DecidableEq, Repr

/-- A register code of the register map: a 32-bit register and the byte of it where the named
register begins (10_state.md R22, R23). -/
structure RegSel where
  whole : LongReg
  part : BitVec 2
  deriving DecidableEq, Repr

/-- The operand `r` of a register prefix: the short form with a 3-bit current-bank code
(30_encoding.md R105), or the extension form with a register-map code (R106). -/
inductive RegOp where
  | short (r : BitVec 3)
  | ext (c : RegSel)
  deriving DecidableEq, Repr

/-- The encoded step of the pre-decrement and post-increment modes (30_encoding.md R110, R112). -/
inductive Step where
  | one
  | two
  | four
  deriving DecidableEq, Repr

/-- The addressing modes of a memory prefix (30_encoding.md R110). (PC+d16) exists in LDAR only and
stands in that instruction's rows. -/
inductive MemOp where
  /-- (XWA) .. (XSP) -/
  | ind (R : BitVec 3)
  /-- (XWA+d8) .. (XSP+d8) -/
  | indD8 (R : BitVec 3) (d : BitVec 8)
  /-- (#8) -/
  | abs8 (a : BitVec 8)
  /-- (#16) -/
  | abs16 (a : BitVec 16)
  /-- (#24) -/
  | abs24 (a : BitVec 24)
  /-- (r32) -/
  | reg (c : LongReg)
  /-- (r32+d16) -/
  | regD16 (c : LongReg) (d : BitVec 16)
  /-- (r32+r8) -/
  | regR8 (c : LongReg) (e : RegSel)
  /-- (r32+r16) -/
  | regR16 (c : LongReg) (e : RegSel)
  /-- (-r32) -/
  | preDec (c : LongReg) (t : Step)
  /-- (r32+) -/
  | postInc (c : LongReg) (t : Step)
  deriving DecidableEq, Repr

/-- The control registers `cr` that LDC reaches (10_state.md R42). -/
inductive ControlReg where
  | dmas (n : Fin 8)
  | dmad (n : Fin 8)
  | dmac (n : Fin 8)
  | dmam (n : Fin 8)
  | intnest
  deriving DecidableEq, Repr

/-- The instructions, one constructor for each row of spec/opcode_table.json, in the table's order but
for the rows without operands, which stand last (Lean's compiler bounds how many constructors may come
before one that has fields). An undefined or dummy code carries no operands: whatever the prefix and
the don't-care bits are, it is the same undefined instruction (30_encoding.md R122, R123).
Field names: `z` operand size, `R` 3-bit current-bank register, `r` register prefix operand, `m` memory
operand, `i` immediate, `a` absolute address, `d` displacement, `n` small number field, `cc` condition,
`k` control register (or, in the rows of prefixes, the size of a memory prefix, none for the
destination class). Letters B, W, L end the names of rows that differ by size only. -/
inductive Instr where
  -- One-byte opcodes (30_encoding.md R104)
  /-- EI #3 (R341) -/
  | ei (n : BitVec 3)
  /-- LD (#8),# (R167) -/
  | ldAbs8Imm (a : BitVec 8) (i : BitVec 8)
  /-- PUSH # (R175) -/
  | pushImm (i : BitVec 8)
  /-- LDW (#8),# (R167) -/
  | ldwAbs8Imm (a : BitVec 8) (i : BitVec 16)
  /-- PUSHW # (R175) -/
  | pushwImm (i : BitVec 16)
  /-- RETD d16 (R397) -/
  | retd (d : BitVec 16)
  /-- LDF #2 (R351) -/
  | ldf (n : BitVec 2)
  /-- JP #16 (R390) -/
  | jpAbs16 (a : BitVec 16)
  /-- JP #24 (R390) -/
  | jpAbs24 (a : BitVec 24)
  /-- CALL #16 (R393) -/
  | callAbs16 (a : BitVec 16)
  /-- CALL #24 (R393) -/
  | callAbs24 (a : BitVec 24)
  /-- CALR $+3+d16 (R394) -/
  | calr (d : BitVec 16)
  /-- LD R,# (byte) (R163) -/
  | ldRImmB (R : BitVec 3) (i : BitVec 8)
  /-- PUSH R (word) (R173) -/
  | pushRW (R : BitVec 3)
  /-- LD R,# (word) (R163) -/
  | ldRImmW (R : BitVec 3) (i : BitVec 16)
  /-- PUSH R (long) (R173) -/
  | pushRL (R : BitVec 3)
  /-- LD R,# (long) (R163) -/
  | ldRImmL (R : BitVec 3) (i : BitVec 32)
  /-- POP R (word) (R179) -/
  | popRW (R : BitVec 3)
  /-- POP R (long) (R179) -/
  | popRL (R : BitVec 3)
  /-- JR [cc,]$+2+d8 (R391) -/
  | jr (cc : Cond) (d : BitVec 8)
  /-- JRL [cc,]$+3+d16 (R392) -/
  | jrl (cc : Cond) (d : BitVec 16)
  /-- SWI #3 (R345) -/
  | swi (n : BitVec 3)
  -- Register prefix, then a second opcode byte (30_encoding.md R117)
  /-- LD r,# (byte) (R164) -/
  | ldrImmB (r : RegOp) (i : BitVec 8)
  /-- LD r,# (word) (R164) -/
  | ldrImmW (r : RegOp) (i : BitVec 16)
  /-- LD r,# (long) (R164) -/
  | ldrImmL (r : RegOp) (i : BitVec 32)
  /-- PUSH r (R174) -/
  | pushr (z : Size) (r : RegOp)
  /-- POP r (R180) -/
  | popr (z : Size) (r : RegOp)
  /-- CPL r (R294) -/
  | cpl (z : Size) (r : RegOp)
  /-- NEG r (R229) -/
  | neg (z : Size) (r : RegOp)
  /-- MUL rr,# (byte) (R242) -/
  | mulrImmB (r : RegOp) (i : BitVec 8)
  /-- MUL rr,# (word) (R242) -/
  | mulrImmW (r : RegOp) (i : BitVec 16)
  /-- MULS rr,# (byte) (R243) -/
  | mulsrImmB (r : RegOp) (i : BitVec 8)
  /-- MULS rr,# (word) (R243) -/
  | mulsrImmW (r : RegOp) (i : BitVec 16)
  /-- DIV rr,# (byte) (R244) -/
  | divrImmB (r : RegOp) (i : BitVec 8)
  /-- DIV rr,# (word) (R244) -/
  | divrImmW (r : RegOp) (i : BitVec 16)
  /-- DIVS rr,# (byte) (R245) -/
  | divsrImmB (r : RegOp) (i : BitVec 8)
  /-- DIVS rr,# (word) (R245) -/
  | divsrImmW (r : RegOp) (i : BitVec 16)
  /-- LINK r,d16 (R349) -/
  | link (r : RegOp) (d : BitVec 16)
  /-- UNLK r (R350) -/
  | unlk (r : RegOp)
  /-- BS1F A,r (R310) -/
  | bs1f (r : RegOp)
  /-- BS1B A,r (R311) -/
  | bs1b (r : RegOp)
  /-- DAA r (R232) -/
  | daa (r : RegOp)
  /-- EXTZ r (R230) -/
  | extz (z : Size) (r : RegOp)
  /-- EXTS r (R231) -/
  | exts (z : Size) (r : RegOp)
  /-- PAA r (R233) -/
  | paa (z : Size) (r : RegOp)
  /-- MIRR r (R187) -/
  | mirr (r : RegOp)
  /-- MULA rr (R246) -/
  | mula (r : RegOp)
  /-- DJNZ [r,]$+3+d8 (R395) -/
  | djnz (z : Size) (r : RegOp) (d : BitVec 8)
  /-- ANDCF #4,r (R298) -/
  | andcfNumr (z : Size) (n : BitVec 4) (r : RegOp)
  /-- ANDCF A,r (R298) -/
  | andcfAr (z : Size) (r : RegOp)
  /-- ORCF #4,r (R299) -/
  | orcfNumr (z : Size) (n : BitVec 4) (r : RegOp)
  /-- ORCF A,r (R299) -/
  | orcfAr (z : Size) (r : RegOp)
  /-- XORCF #4,r (R300) -/
  | xorcfNumr (z : Size) (n : BitVec 4) (r : RegOp)
  /-- XORCF A,r (R300) -/
  | xorcfAr (z : Size) (r : RegOp)
  /-- LDCF #4,r (R296) -/
  | ldcfNumr (z : Size) (n : BitVec 4) (r : RegOp)
  /-- LDCF A,r (R296) -/
  | ldcfAr (z : Size) (r : RegOp)
  /-- STCF #4,r (R297) -/
  | stcfNumr (z : Size) (n : BitVec 4) (r : RegOp)
  /-- STCF A,r (R297) -/
  | stcfAr (z : Size) (r : RegOp)
  /-- LDC cr,r (R347) -/
  | ldcCrr (z : Size) (k : ControlReg) (r : RegOp)
  /-- LDC r,cr (R348) -/
  | ldcrCr (z : Size) (r : RegOp) (k : ControlReg)
  /-- RES #4,r (R306) -/
  | resNumr (z : Size) (n : BitVec 4) (r : RegOp)
  /-- SET #4,r (R307) -/
  | setNumr (z : Size) (n : BitVec 4) (r : RegOp)
  /-- CHG #4,r (R308) -/
  | chgNumr (z : Size) (n : BitVec 4) (r : RegOp)
  /-- BIT #4,r (R305) -/
  | bitNumr (z : Size) (n : BitVec 4) (r : RegOp)
  /-- TSET #4,r (R309) -/
  | tsetNumr (z : Size) (n : BitVec 4) (r : RegOp)
  /-- MINC1 #,r (R247) -/
  | minc1 (i : BitVec 16) (r : RegOp)
  /-- MINC2 #,r (R248) -/
  | minc2 (i : BitVec 16) (r : RegOp)
  /-- MINC4 #,r (R249) -/
  | minc4 (i : BitVec 16) (r : RegOp)
  /-- MDEC1 #,r (R250) -/
  | mdec1 (i : BitVec 16) (r : RegOp)
  /-- MDEC2 #,r (R251) -/
  | mdec2 (i : BitVec 16) (r : RegOp)
  /-- MDEC4 #,r (R252) -/
  | mdec4 (i : BitVec 16) (r : RegOp)
  /-- MUL RR,r (R242) -/
  | mulRr (z : Size) (R : BitVec 3) (r : RegOp)
  /-- MULS RR,r (R243) -/
  | mulsRr (z : Size) (R : BitVec 3) (r : RegOp)
  /-- DIV RR,r (R244) -/
  | divRr (z : Size) (R : BitVec 3) (r : RegOp)
  /-- DIVS RR,r (R245) -/
  | divsRr (z : Size) (R : BitVec 3) (r : RegOp)
  /-- INC #3,r (R227) -/
  | incNumr (z : Size) (n : BitVec 3) (r : RegOp)
  /-- DEC #3,r (R228) -/
  | decNumr (z : Size) (n : BitVec 3) (r : RegOp)
  /-- SCC cc,r (R354) -/
  | scc (z : Size) (cc : Cond) (r : RegOp)
  /-- ADD R,r (R222) -/
  | addRr (z : Size) (R : BitVec 3) (r : RegOp)
  /-- ADC R,r (R223) -/
  | adcRr (z : Size) (R : BitVec 3) (r : RegOp)
  /-- SUB R,r (R224) -/
  | subRr (z : Size) (R : BitVec 3) (r : RegOp)
  /-- SBC R,r (R225) -/
  | sbcRr (z : Size) (R : BitVec 3) (r : RegOp)
  /-- AND R,r (R291) -/
  | andRr (z : Size) (R : BitVec 3) (r : RegOp)
  /-- XOR R,r (R293) -/
  | xorRr (z : Size) (R : BitVec 3) (r : RegOp)
  /-- OR R,r (R292) -/
  | orRr (z : Size) (R : BitVec 3) (r : RegOp)
  /-- CP R,r (R226) -/
  | cpRr (z : Size) (R : BitVec 3) (r : RegOp)
  /-- LD R,r (R160) -/
  | ldRr (z : Size) (R : BitVec 3) (r : RegOp)
  /-- LD r,R (R161) -/
  | ldrR (z : Size) (r : RegOp) (R : BitVec 3)
  /-- LD r,#3 (R162) -/
  | ldrNum3 (z : Size) (r : RegOp) (n : BitVec 3)
  /-- EX R,r (R185) -/
  | exRr (z : Size) (R : BitVec 3) (r : RegOp)
  /-- ADD r,# (byte) (R222) -/
  | addrImmB (r : RegOp) (i : BitVec 8)
  /-- ADD r,# (word) (R222) -/
  | addrImmW (r : RegOp) (i : BitVec 16)
  /-- ADD r,# (long) (R222) -/
  | addrImmL (r : RegOp) (i : BitVec 32)
  /-- ADC r,# (byte) (R223) -/
  | adcrImmB (r : RegOp) (i : BitVec 8)
  /-- ADC r,# (word) (R223) -/
  | adcrImmW (r : RegOp) (i : BitVec 16)
  /-- ADC r,# (long) (R223) -/
  | adcrImmL (r : RegOp) (i : BitVec 32)
  /-- SUB r,# (byte) (R224) -/
  | subrImmB (r : RegOp) (i : BitVec 8)
  /-- SUB r,# (word) (R224) -/
  | subrImmW (r : RegOp) (i : BitVec 16)
  /-- SUB r,# (long) (R224) -/
  | subrImmL (r : RegOp) (i : BitVec 32)
  /-- SBC r,# (byte) (R225) -/
  | sbcrImmB (r : RegOp) (i : BitVec 8)
  /-- SBC r,# (word) (R225) -/
  | sbcrImmW (r : RegOp) (i : BitVec 16)
  /-- SBC r,# (long) (R225) -/
  | sbcrImmL (r : RegOp) (i : BitVec 32)
  /-- AND r,# (byte) (R291) -/
  | andrImmB (r : RegOp) (i : BitVec 8)
  /-- AND r,# (word) (R291) -/
  | andrImmW (r : RegOp) (i : BitVec 16)
  /-- AND r,# (long) (R291) -/
  | andrImmL (r : RegOp) (i : BitVec 32)
  /-- XOR r,# (byte) (R293) -/
  | xorrImmB (r : RegOp) (i : BitVec 8)
  /-- XOR r,# (word) (R293) -/
  | xorrImmW (r : RegOp) (i : BitVec 16)
  /-- XOR r,# (long) (R293) -/
  | xorrImmL (r : RegOp) (i : BitVec 32)
  /-- OR r,# (byte) (R292) -/
  | orrImmB (r : RegOp) (i : BitVec 8)
  /-- OR r,# (word) (R292) -/
  | orrImmW (r : RegOp) (i : BitVec 16)
  /-- OR r,# (long) (R292) -/
  | orrImmL (r : RegOp) (i : BitVec 32)
  /-- CP r,# (byte) (R226) -/
  | cprImmB (r : RegOp) (i : BitVec 8)
  /-- CP r,# (word) (R226) -/
  | cprImmW (r : RegOp) (i : BitVec 16)
  /-- CP r,# (long) (R226) -/
  | cprImmL (r : RegOp) (i : BitVec 32)
  /-- CP r,#3 (R226) -/
  | cprNum3 (z : Size) (r : RegOp) (n : BitVec 3)
  /-- RLC #4,r (R372) -/
  | rlcNumr (z : Size) (n : BitVec 4) (r : RegOp)
  /-- RRC #4,r (R373) -/
  | rrcNumr (z : Size) (n : BitVec 4) (r : RegOp)
  /-- RL #4,r (R374) -/
  | rlNumr (z : Size) (n : BitVec 4) (r : RegOp)
  /-- RR #4,r (R375) -/
  | rrNumr (z : Size) (n : BitVec 4) (r : RegOp)
  /-- SLA #4,r (R376) -/
  | slaNumr (z : Size) (n : BitVec 4) (r : RegOp)
  /-- SRA #4,r (R377) -/
  | sraNumr (z : Size) (n : BitVec 4) (r : RegOp)
  /-- SLL #4,r (R378) -/
  | sllNumr (z : Size) (n : BitVec 4) (r : RegOp)
  /-- SRL #4,r (R379) -/
  | srlNumr (z : Size) (n : BitVec 4) (r : RegOp)
  /-- RLC A,r (R372) -/
  | rlcAr (z : Size) (r : RegOp)
  /-- RRC A,r (R373) -/
  | rrcAr (z : Size) (r : RegOp)
  /-- RL A,r (R374) -/
  | rlAr (z : Size) (r : RegOp)
  /-- RR A,r (R375) -/
  | rrAr (z : Size) (r : RegOp)
  /-- SLA A,r (R376) -/
  | slaAr (z : Size) (r : RegOp)
  /-- SRA A,r (R377) -/
  | sraAr (z : Size) (r : RegOp)
  /-- SLL A,r (R378) -/
  | sllAr (z : Size) (r : RegOp)
  /-- SRL A,r (R379) -/
  | srlAr (z : Size) (r : RegOp)
  -- Source-memory prefix, then a second opcode byte (30_encoding.md R119)
  /-- PUSH<W> (mem) (R176) -/
  | pushMem (z : Size) (m : MemOp)
  /-- RLD [A,](mem) (R380) -/
  | rld (m : MemOp)
  /-- RRD [A,](mem) (R381) -/
  | rrd (m : MemOp)
  /-- LDI<W> (XDE+),(XHL+) (R201) -/
  | ldiDeHl (z : Size)
  /-- LDI<W> (XIX+),(XIY+) (R201) -/
  | ldiIxIy (z : Size)
  /-- LDIR<W> (XDE+),(XHL+) (R202) -/
  | ldirDeHl (z : Size)
  /-- LDIR<W> (XIX+),(XIY+) (R202) -/
  | ldirIxIy (z : Size)
  /-- LDD<W> (XDE-),(XHL-) (R203) -/
  | lddDeHl (z : Size)
  /-- LDD<W> (XIX-),(XIY-) (R203) -/
  | lddIxIy (z : Size)
  /-- LDDR<W> (XDE-),(XHL-) (R204) -/
  | lddrDeHl (z : Size)
  /-- LDDR<W> (XIX-),(XIY-) (R204) -/
  | lddrIxIy (z : Size)
  /-- CPI [A/WA,(R+)] (R205) -/
  | cpi (z : Size) (R : BitVec 3)
  /-- CPIR [A/WA,(R+)] (R206) -/
  | cpir (z : Size) (R : BitVec 3)
  /-- CPD [A/WA,(R-)] (R207) -/
  | cpd (z : Size) (R : BitVec 3)
  /-- CPDR [A/WA,(R-)] (R208) -/
  | cpdr (z : Size) (R : BitVec 3)
  /-- LD<W> (#16),(mem) (R169) -/
  | ldAbs16Mem (z : Size) (a : BitVec 16) (m : MemOp)
  /-- LD R,(mem) (R165) -/
  | ldRMem (z : Size) (R : BitVec 3) (m : MemOp)
  /-- EX (mem),R (R186) -/
  | exMemR (z : Size) (m : MemOp) (R : BitVec 3)
  /-- ADD<W> (mem),# (byte) (R222) -/
  | addMemImmB (m : MemOp) (i : BitVec 8)
  /-- ADD<W> (mem),# (word) (R222) -/
  | addMemImmW (m : MemOp) (i : BitVec 16)
  /-- ADC<W> (mem),# (byte) (R223) -/
  | adcMemImmB (m : MemOp) (i : BitVec 8)
  /-- ADC<W> (mem),# (word) (R223) -/
  | adcMemImmW (m : MemOp) (i : BitVec 16)
  /-- SUB<W> (mem),# (byte) (R224) -/
  | subMemImmB (m : MemOp) (i : BitVec 8)
  /-- SUB<W> (mem),# (word) (R224) -/
  | subMemImmW (m : MemOp) (i : BitVec 16)
  /-- SBC<W> (mem),# (byte) (R225) -/
  | sbcMemImmB (m : MemOp) (i : BitVec 8)
  /-- SBC<W> (mem),# (word) (R225) -/
  | sbcMemImmW (m : MemOp) (i : BitVec 16)
  /-- AND<W> (mem),# (byte) (R291) -/
  | andMemImmB (m : MemOp) (i : BitVec 8)
  /-- AND<W> (mem),# (word) (R291) -/
  | andMemImmW (m : MemOp) (i : BitVec 16)
  /-- XOR<W> (mem),# (byte) (R293) -/
  | xorMemImmB (m : MemOp) (i : BitVec 8)
  /-- XOR<W> (mem),# (word) (R293) -/
  | xorMemImmW (m : MemOp) (i : BitVec 16)
  /-- OR<W> (mem),# (byte) (R292) -/
  | orMemImmB (m : MemOp) (i : BitVec 8)
  /-- OR<W> (mem),# (word) (R292) -/
  | orMemImmW (m : MemOp) (i : BitVec 16)
  /-- CP<W> (mem),# (byte) (R226) -/
  | cpMemImmB (m : MemOp) (i : BitVec 8)
  /-- CP<W> (mem),# (word) (R226) -/
  | cpMemImmW (m : MemOp) (i : BitVec 16)
  /-- MUL RR,(mem) (R242) -/
  | mulRMem (z : Size) (R : BitVec 3) (m : MemOp)
  /-- MULS RR,(mem) (R243) -/
  | mulsRMem (z : Size) (R : BitVec 3) (m : MemOp)
  /-- DIV RR,(mem) (R244) -/
  | divRMem (z : Size) (R : BitVec 3) (m : MemOp)
  /-- DIVS RR,(mem) (R245) -/
  | divsRMem (z : Size) (R : BitVec 3) (m : MemOp)
  /-- INC<W> #3,(mem) (R227) -/
  | incNumMem (z : Size) (n : BitVec 3) (m : MemOp)
  /-- DEC<W> #3,(mem) (R228) -/
  | decNumMem (z : Size) (n : BitVec 3) (m : MemOp)
  /-- RLC<W> (mem) (R372) -/
  | rlcMem (z : Size) (m : MemOp)
  /-- RRC<W> (mem) (R373) -/
  | rrcMem (z : Size) (m : MemOp)
  /-- RL<W> (mem) (R374) -/
  | rlMem (z : Size) (m : MemOp)
  /-- RR<W> (mem) (R375) -/
  | rrMem (z : Size) (m : MemOp)
  /-- SLA<W> (mem) (R376) -/
  | slaMem (z : Size) (m : MemOp)
  /-- SRA<W> (mem) (R377) -/
  | sraMem (z : Size) (m : MemOp)
  /-- SLL<W> (mem) (R378) -/
  | sllMem (z : Size) (m : MemOp)
  /-- SRL<W> (mem) (R379) -/
  | srlMem (z : Size) (m : MemOp)
  /-- ADD R,(mem) (R222) -/
  | addRMem (z : Size) (R : BitVec 3) (m : MemOp)
  /-- ADD (mem),R (R222) -/
  | addMemR (z : Size) (m : MemOp) (R : BitVec 3)
  /-- ADC R,(mem) (R223) -/
  | adcRMem (z : Size) (R : BitVec 3) (m : MemOp)
  /-- ADC (mem),R (R223) -/
  | adcMemR (z : Size) (m : MemOp) (R : BitVec 3)
  /-- SUB R,(mem) (R224) -/
  | subRMem (z : Size) (R : BitVec 3) (m : MemOp)
  /-- SUB (mem),R (R224) -/
  | subMemR (z : Size) (m : MemOp) (R : BitVec 3)
  /-- SBC R,(mem) (R225) -/
  | sbcRMem (z : Size) (R : BitVec 3) (m : MemOp)
  /-- SBC (mem),R (R225) -/
  | sbcMemR (z : Size) (m : MemOp) (R : BitVec 3)
  /-- AND R,(mem) (R291) -/
  | andRMem (z : Size) (R : BitVec 3) (m : MemOp)
  /-- AND (mem),R (R291) -/
  | andMemR (z : Size) (m : MemOp) (R : BitVec 3)
  /-- XOR R,(mem) (R293) -/
  | xorRMem (z : Size) (R : BitVec 3) (m : MemOp)
  /-- XOR (mem),R (R293) -/
  | xorMemR (z : Size) (m : MemOp) (R : BitVec 3)
  /-- OR R,(mem) (R292) -/
  | orRMem (z : Size) (R : BitVec 3) (m : MemOp)
  /-- OR (mem),R (R292) -/
  | orMemR (z : Size) (m : MemOp) (R : BitVec 3)
  /-- CP R,(mem) (R226) -/
  | cpRMem (z : Size) (R : BitVec 3) (m : MemOp)
  /-- CP (mem),R (R226) -/
  | cpMemR (z : Size) (m : MemOp) (R : BitVec 3)
  -- Destination-memory prefix, then a second opcode byte (30_encoding.md R120)
  /-- LD (mem),# (R168) -/
  | ldMemImm (m : MemOp) (i : BitVec 8)
  /-- LDW (mem),# (R168) -/
  | ldwMemImm (m : MemOp) (i : BitVec 16)
  /-- POP (mem) (R181) -/
  | popMem (m : MemOp)
  /-- POPW (mem) (R181) -/
  | popwMem (m : MemOp)
  /-- LD (mem),(#16) (R170) -/
  | ldMemAbs16 (m : MemOp) (a : BitVec 16)
  /-- LDW (mem),(#16) (R170) -/
  | ldwMemAbs16 (m : MemOp) (a : BitVec 16)
  /-- LDA R,mem (word) (R182) -/
  | ldaW (R : BitVec 3) (m : MemOp)
  /-- LDA R,mem (long) (R182) -/
  | ldaL (R : BitVec 3) (m : MemOp)
  /-- LDAR R,$+4+d16 (word) (R183) -/
  | ldarW (R : BitVec 3) (d : BitVec 16)
  /-- LDAR R,$+4+d16 (long) (R183) -/
  | ldarL (R : BitVec 3) (d : BitVec 16)
  /-- ANDCF A,(mem) (R298) -/
  | andcfAMem (m : MemOp)
  /-- ORCF A,(mem) (R299) -/
  | orcfAMem (m : MemOp)
  /-- XORCF A,(mem) (R300) -/
  | xorcfAMem (m : MemOp)
  /-- LDCF A,(mem) (R296) -/
  | ldcfAMem (m : MemOp)
  /-- STCF A,(mem) (R297) -/
  | stcfAMem (m : MemOp)
  /-- LD (mem),R (byte) (R166) -/
  | ldMemRB (m : MemOp) (R : BitVec 3)
  /-- LD (mem),R (word) (R166) -/
  | ldMemRW (m : MemOp) (R : BitVec 3)
  /-- LD (mem),R (long) (R166) -/
  | ldMemRL (m : MemOp) (R : BitVec 3)
  /-- ANDCF #3,(mem) (R298) -/
  | andcfNumMem (n : BitVec 3) (m : MemOp)
  /-- ORCF #3,(mem) (R299) -/
  | orcfNumMem (n : BitVec 3) (m : MemOp)
  /-- XORCF #3,(mem) (R300) -/
  | xorcfNumMem (n : BitVec 3) (m : MemOp)
  /-- LDCF #3,(mem) (R296) -/
  | ldcfNumMem (n : BitVec 3) (m : MemOp)
  /-- STCF #3,(mem) (R297) -/
  | stcfNumMem (n : BitVec 3) (m : MemOp)
  /-- TSET #3,(mem) (R309) -/
  | tsetNumMem (n : BitVec 3) (m : MemOp)
  /-- RES #3,(mem) (R306) -/
  | resNumMem (n : BitVec 3) (m : MemOp)
  /-- SET #3,(mem) (R307) -/
  | setNumMem (n : BitVec 3) (m : MemOp)
  /-- CHG #3,(mem) (R308) -/
  | chgNumMem (n : BitVec 3) (m : MemOp)
  /-- BIT #3,(mem) (R305) -/
  | bitNumMem (n : BitVec 3) (m : MemOp)
  /-- JP [cc,]mem (R390) -/
  | jpMem (cc : Cond) (m : MemOp)
  /-- CALL [cc,]mem (R393) -/
  | callMem (cc : Cond) (m : MemOp)
  /-- RET cc (R396) -/
  | retCc (cc : Cond)
  -- The rows that describe prefixes and addressing modes: a prefix with no second opcode byte after it (30_encoding.md R105, R106, R110; log entry 16)
  /-- (prefix) register, short form (R105) -/
  | prefixRegShort (z : Size) (r : BitVec 3)
  /-- (prefix) register, extension form (R106) -/
  | prefixRegExt (z : Size) (c : RegSel)
  /-- (mem) (R32) (R110) -/
  | prefixMemInd (k : Option Size) (R : BitVec 3)
  /-- (mem) (R32+d8) (R110) -/
  | prefixMemIndD8 (k : Option Size) (R : BitVec 3) (d : BitVec 8)
  /-- (mem) (#8) (R110) -/
  | prefixMemAbs8 (k : Option Size) (a : BitVec 8)
  /-- (mem) (#16) (R110) -/
  | prefixMemAbs16 (k : Option Size) (a : BitVec 16)
  /-- (mem) (#24) (R110) -/
  | prefixMemAbs24 (k : Option Size) (a : BitVec 24)
  /-- (mem) (r32) (R110) -/
  | prefixMemReg (k : Option Size) (c : LongReg)
  /-- (mem) (r32+d16) (R110) -/
  | prefixMemRegD16 (k : Option Size) (c : LongReg) (d : BitVec 16)
  /-- (mem) (r32+r8) (R110) -/
  | prefixMemRegR8 (k : Option Size) (c : LongReg) (e : RegSel)
  /-- (mem) (r32+r16) (R110) -/
  | prefixMemRegR16 (k : Option Size) (c : LongReg) (e : RegSel)
  /-- (mem) (-r32) (R110) -/
  | prefixMemPreDec (k : Option Size) (c : LongReg) (t : Step)
  /-- (mem) (r32+) (R110) -/
  | prefixMemPostInc (k : Option Size) (c : LongReg) (t : Step)
  -- One-byte opcodes without operands (30_encoding.md R104)
  /-- NOP (R340) -/
  | nop
  /-- PUSH SR (R343) -/
  | pushSr
  /-- POP SR (R344) -/
  | popSr
  /-- HALT (R346) -/
  | halt
  /-- DI (R342) -/
  | di
  /-- RETI (R398) -/
  | reti
  /-- INCF (R352) -/
  | incf
  /-- DECF (R353) -/
  | decf
  /-- RET (R396) -/
  | ret
  /-- RCF (R301) -/
  | rcf
  /-- SCF (R302) -/
  | scf
  /-- CCF (R303) -/
  | ccf
  /-- ZCF (R304) -/
  | zcf
  /-- PUSH A (R172) -/
  | pushA
  /-- POP A (R178) -/
  | popA
  /-- EX F,F' (R184) -/
  | exFF
  /-- PUSH F (R171) -/
  | pushF
  /-- POP F (R177) -/
  | popF
  -- Undefined and dummy codes (30_encoding.md R122, R123)
  /-- (undefined) 01H (R122) -/
  | undefined01
  /-- (undefined) 04H (R122) -/
  | undefined04
  /-- (undefined) 50H-57H (R122) -/
  | undefined50
  /-- (dummy) 1FH (R123) -/
  | dummy1F
  /-- (undefined) C6H (R122) -/
  | undefinedC6
  /-- (undefined) D6H (R122) -/
  | undefinedD6
  /-- (undefined) E6H (R122) -/
  | undefinedE6
  /-- (undefined) F6H (R122) -/
  | undefinedF6
  /-- (undefined) F7H (R122) -/
  | undefinedF7
  /-- (undefined) 00H-01H (R122) -/
  | undefinedReg00
  /-- (undefined) 02H (R122) -/
  | undefinedReg02
  /-- (undefined) 11H (R122) -/
  | undefinedReg11
  /-- (undefined) 15H (R122) -/
  | undefinedReg15
  /-- (undefined) 17H (R122) -/
  | undefinedReg17
  /-- (undefined) 18H (R122) -/
  | undefinedReg18
  /-- (undefined) 25H (R122) -/
  | undefinedReg25
  /-- (undefined) 26H-27H (R122) -/
  | undefinedReg26
  /-- (undefined) 2DH (R122) -/
  | undefinedReg2D
  /-- (undefined) 35H (R122) -/
  | undefinedReg35
  /-- (undefined) 36H-37H (R122) -/
  | undefinedReg36
  /-- (dummy) 1AH-1BH (R123) -/
  | dummyReg1A
  /-- (dummy) 1DH (R123) -/
  | dummyReg1D
  /-- (dummy) 1EH-1FH (R123) -/
  | dummyReg1E
  /-- (dummy) 3BH (R123) -/
  | dummyReg3B
  /-- (dummy) 3FH (R123) -/
  | dummyReg3F
  /-- (undefined) 00H-03H (R122) -/
  | undefinedSrc00
  /-- (undefined) 05H (R122) -/
  | undefinedSrc05
  /-- (undefined) 08H-0FH (R122) -/
  | undefinedSrc08
  /-- (undefined) 18H (R122) -/
  | undefinedSrc18
  /-- (undefined) 1AH-1BH (R122) -/
  | undefinedSrc1A
  /-- (undefined) 1CH-1FH (R122) -/
  | undefinedSrc1C
  /-- (undefined) 28H-2FH (R122) -/
  | undefinedSrc28
  /-- (undefined) 70H-77H (R122) -/
  | undefinedSrc70
  /-- (undefined) 03H (R122) -/
  | undefinedDst03
  /-- (undefined) 07H (R122) -/
  | undefinedDst07
  /-- (undefined) 08H-0FH (R122) -/
  | undefinedDst08
  /-- (undefined) 10H-13H (R122) -/
  | undefinedDst10
  /-- (undefined) 17H (R122) -/
  | undefinedDst17
  /-- (undefined) 18H-1FH (R122) -/
  | undefinedDst18
  /-- (undefined) 2DH (R122) -/
  | undefinedDst2D
  /-- (undefined) 2EH-2FH (R122) -/
  | undefinedDst2E
  /-- (undefined) 38H-3FH (R122) -/
  | undefinedDst38
  /-- (undefined) 48H-4FH (R122) -/
  | undefinedDst48
  /-- (undefined) 58H-5FH (R122) -/
  | undefinedDst58
  /-- (undefined) 68H-6FH (R122) -/
  | undefinedDst68
  /-- (undefined) 70H-7FH (R122) -/
  | undefinedDst70
  /-- (dummy) 01H (R123) -/
  | dummyDst01
  /-- (dummy) 05H (R123) -/
  | dummyDst05
  /-- (dummy) 15H (R123) -/
  | dummyDst15
  deriving DecidableEq, Repr

end Sys2Proof
end

