-- ==== Sys2Proof/WellFormed.lean ====
section
/-! DEFINITION. Which terms of `Instr` are instructions of the machine: the sizes a row lists
(30_encoding.md R121), register codes that name a register of the operand's size (10_state.md R23),
destinations of twice the operation size (42_arithmetic.md R241), and control registers of LDC's
size (10_state.md R45). What no field can hold wrong (a 3-bit code, a step, a bank) needs no check. -/

namespace Sys2Proof

/-- The row exists at byte and word size only (30_encoding.md R117, R119). -/
def Size.isBW (z : Size) : Bool := z != .long

/-- The row exists at word and long word size only (30_encoding.md R117). -/
def Size.isWL (z : Size) : Bool := z != .byte

/-- The code names a register of size `z`: a multiple of 2 for a word, of 4 for a long word
(10_state.md R23). -/
def RegSel.alignedAt (c : RegSel) : Size → Bool
  | .byte => true
  | .word => !c.part.getLsbD 0
  | .long => c.part == 0#2

/-- A register prefix operand names a register of size `z`; the short form always does
(30_encoding.md R105, R106). -/
def RegOp.alignedAt (r : RegOp) (z : Size) : Bool :=
  match r with
  | .short _ => true
  | .ext c => c.alignedAt z

/-- The 3-bit field R of MUL, MULS, DIV, DIVS names the low half of a register of twice the operation
size `z`: codes 001, 011, 101, 111 for a byte operation, every code for a word operation
(42_arithmetic.md R241). -/
def pairField (z : Size) (R : BitVec 3) : Bool :=
  match z with
  | .byte => R.getLsbD 0
  | .word => true
  | .long => false

/-- The register prefix of `rr,#` and of MULA names the low half of a register of twice the operation
size `z` (42_arithmetic.md R241, R246). -/
def RegOp.pairAt (r : RegOp) (z : Size) : Bool :=
  match r, z with
  | .short R, z => pairField z R
  | .ext c, .byte => c.alignedAt .word
  | .ext c, .word => c.alignedAt .long
  | .ext _, .long => false

/-- The index register of (r32+r16) is a word register (30_encoding.md R110, R113). -/
def MemOp.wellFormed : MemOp → Bool
  | .ind _ | .indD8 _ _ | .abs8 _ | .abs16 _ | .abs24 _ | .reg _ | .regD16 _ _ | .regR8 _ _
  | .preDec _ _ | .postInc _ _ => true
  | .regR16 _ e => e.alignedAt .word

/-- The size of a control register (10_state.md R42). -/
def ControlReg.size : ControlReg → Size
  | .dmas _ | .dmad _ => .long
  | .dmac _ | .intnest => .word
  | .dmam _ => .byte

/-- The check on a whole instruction. `EI 7` is no term of its own: its code is DI's
(44_cpu_control.md R341; log entry 18). -/
def Instr.wellFormed : Instr → Bool
  | .ei n => n != 7#3
  | .ldAbs8Imm _ _ => true
  | .pushImm _ => true
  | .ldwAbs8Imm _ _ => true
  | .pushwImm _ => true
  | .retd _ => true
  | .ldf _ => true
  | .jpAbs16 _ => true
  | .jpAbs24 _ => true
  | .callAbs16 _ => true
  | .callAbs24 _ => true
  | .calr _ => true
  | .ldRImmB _ _ => true
  | .pushRW _ => true
  | .ldRImmW _ _ => true
  | .pushRL _ => true
  | .ldRImmL _ _ => true
  | .popRW _ => true
  | .popRL _ => true
  | .jr _ _ => true
  | .jrl _ _ => true
  | .swi _ => true
  | .ldrImmB r _ => r.alignedAt .byte
  | .ldrImmW r _ => r.alignedAt .word
  | .ldrImmL r _ => r.alignedAt .long
  | .pushr z r => r.alignedAt z
  | .popr z r => r.alignedAt z
  | .cpl z r => z.isBW && r.alignedAt z
  | .neg z r => z.isBW && r.alignedAt z
  | .mulrImmB r _ => r.pairAt .byte && r.alignedAt .byte
  | .mulrImmW r _ => r.pairAt .word && r.alignedAt .word
  | .mulsrImmB r _ => r.pairAt .byte && r.alignedAt .byte
  | .mulsrImmW r _ => r.pairAt .word && r.alignedAt .word
  | .divrImmB r _ => r.pairAt .byte && r.alignedAt .byte
  | .divrImmW r _ => r.pairAt .word && r.alignedAt .word
  | .divsrImmB r _ => r.pairAt .byte && r.alignedAt .byte
  | .divsrImmW r _ => r.pairAt .word && r.alignedAt .word
  | .link r _ => r.alignedAt .long
  | .unlk r => r.alignedAt .long
  | .bs1f r => r.alignedAt .word
  | .bs1b r => r.alignedAt .word
  | .daa r => r.alignedAt .byte
  | .extz z r => z.isWL && r.alignedAt z
  | .exts z r => z.isWL && r.alignedAt z
  | .paa z r => z.isWL && r.alignedAt z
  | .mirr r => r.alignedAt .word
  | .mula r => r.pairAt .word && r.alignedAt .word
  | .djnz z r _ => z.isBW && r.alignedAt z
  | .andcfNumr z _ r => z.isBW && r.alignedAt z
  | .andcfAr z r => z.isBW && r.alignedAt z
  | .orcfNumr z _ r => z.isBW && r.alignedAt z
  | .orcfAr z r => z.isBW && r.alignedAt z
  | .xorcfNumr z _ r => z.isBW && r.alignedAt z
  | .xorcfAr z r => z.isBW && r.alignedAt z
  | .ldcfNumr z _ r => z.isBW && r.alignedAt z
  | .ldcfAr z r => z.isBW && r.alignedAt z
  | .stcfNumr z _ r => z.isBW && r.alignedAt z
  | .stcfAr z r => z.isBW && r.alignedAt z
  | .ldcCrr z k r => (k.size == z) && r.alignedAt z
  | .ldcrCr z r k => (k.size == z) && r.alignedAt z
  | .resNumr z _ r => z.isBW && r.alignedAt z
  | .setNumr z _ r => z.isBW && r.alignedAt z
  | .chgNumr z _ r => z.isBW && r.alignedAt z
  | .bitNumr z _ r => z.isBW && r.alignedAt z
  | .tsetNumr z _ r => z.isBW && r.alignedAt z
  | .minc1 _ r => r.alignedAt .word
  | .minc2 _ r => r.alignedAt .word
  | .minc4 _ r => r.alignedAt .word
  | .mdec1 _ r => r.alignedAt .word
  | .mdec2 _ r => r.alignedAt .word
  | .mdec4 _ r => r.alignedAt .word
  | .mulRr z R r => z.isBW && pairField z R && r.alignedAt z
  | .mulsRr z R r => z.isBW && pairField z R && r.alignedAt z
  | .divRr z R r => z.isBW && pairField z R && r.alignedAt z
  | .divsRr z R r => z.isBW && pairField z R && r.alignedAt z
  | .incNumr z _ r => r.alignedAt z
  | .decNumr z _ r => r.alignedAt z
  | .scc z _ r => z.isBW && r.alignedAt z
  | .addRr z _ r => r.alignedAt z
  | .adcRr z _ r => r.alignedAt z
  | .subRr z _ r => r.alignedAt z
  | .sbcRr z _ r => r.alignedAt z
  | .andRr z _ r => r.alignedAt z
  | .xorRr z _ r => r.alignedAt z
  | .orRr z _ r => r.alignedAt z
  | .cpRr z _ r => r.alignedAt z
  | .ldRr z _ r => r.alignedAt z
  | .ldrR z r _ => r.alignedAt z
  | .ldrNum3 z r _ => r.alignedAt z
  | .exRr z _ r => z.isBW && r.alignedAt z
  | .addrImmB r _ => r.alignedAt .byte
  | .addrImmW r _ => r.alignedAt .word
  | .addrImmL r _ => r.alignedAt .long
  | .adcrImmB r _ => r.alignedAt .byte
  | .adcrImmW r _ => r.alignedAt .word
  | .adcrImmL r _ => r.alignedAt .long
  | .subrImmB r _ => r.alignedAt .byte
  | .subrImmW r _ => r.alignedAt .word
  | .subrImmL r _ => r.alignedAt .long
  | .sbcrImmB r _ => r.alignedAt .byte
  | .sbcrImmW r _ => r.alignedAt .word
  | .sbcrImmL r _ => r.alignedAt .long
  | .andrImmB r _ => r.alignedAt .byte
  | .andrImmW r _ => r.alignedAt .word
  | .andrImmL r _ => r.alignedAt .long
  | .xorrImmB r _ => r.alignedAt .byte
  | .xorrImmW r _ => r.alignedAt .word
  | .xorrImmL r _ => r.alignedAt .long
  | .orrImmB r _ => r.alignedAt .byte
  | .orrImmW r _ => r.alignedAt .word
  | .orrImmL r _ => r.alignedAt .long
  | .cprImmB r _ => r.alignedAt .byte
  | .cprImmW r _ => r.alignedAt .word
  | .cprImmL r _ => r.alignedAt .long
  | .cprNum3 z r _ => z.isBW && r.alignedAt z
  | .rlcNumr z _ r => r.alignedAt z
  | .rrcNumr z _ r => r.alignedAt z
  | .rlNumr z _ r => r.alignedAt z
  | .rrNumr z _ r => r.alignedAt z
  | .slaNumr z _ r => r.alignedAt z
  | .sraNumr z _ r => r.alignedAt z
  | .sllNumr z _ r => r.alignedAt z
  | .srlNumr z _ r => r.alignedAt z
  | .rlcAr z r => r.alignedAt z
  | .rrcAr z r => r.alignedAt z
  | .rlAr z r => r.alignedAt z
  | .rrAr z r => r.alignedAt z
  | .slaAr z r => r.alignedAt z
  | .sraAr z r => r.alignedAt z
  | .sllAr z r => r.alignedAt z
  | .srlAr z r => r.alignedAt z
  | .pushMem z m => z.isBW && m.wellFormed
  | .rld m => m.wellFormed
  | .rrd m => m.wellFormed
  | .ldiDeHl z => z.isBW
  | .ldiIxIy z => z.isBW
  | .ldirDeHl z => z.isBW
  | .ldirIxIy z => z.isBW
  | .lddDeHl z => z.isBW
  | .lddIxIy z => z.isBW
  | .lddrDeHl z => z.isBW
  | .lddrIxIy z => z.isBW
  | .cpi z _ => z.isBW
  | .cpir z _ => z.isBW
  | .cpd z _ => z.isBW
  | .cpdr z _ => z.isBW
  | .ldAbs16Mem z _ m => z.isBW && m.wellFormed
  | .ldRMem _ _ m => m.wellFormed
  | .exMemR z m _ => z.isBW && m.wellFormed
  | .addMemImmB m _ => m.wellFormed
  | .addMemImmW m _ => m.wellFormed
  | .adcMemImmB m _ => m.wellFormed
  | .adcMemImmW m _ => m.wellFormed
  | .subMemImmB m _ => m.wellFormed
  | .subMemImmW m _ => m.wellFormed
  | .sbcMemImmB m _ => m.wellFormed
  | .sbcMemImmW m _ => m.wellFormed
  | .andMemImmB m _ => m.wellFormed
  | .andMemImmW m _ => m.wellFormed
  | .xorMemImmB m _ => m.wellFormed
  | .xorMemImmW m _ => m.wellFormed
  | .orMemImmB m _ => m.wellFormed
  | .orMemImmW m _ => m.wellFormed
  | .cpMemImmB m _ => m.wellFormed
  | .cpMemImmW m _ => m.wellFormed
  | .mulRMem z R m => z.isBW && pairField z R && m.wellFormed
  | .mulsRMem z R m => z.isBW && pairField z R && m.wellFormed
  | .divRMem z R m => z.isBW && pairField z R && m.wellFormed
  | .divsRMem z R m => z.isBW && pairField z R && m.wellFormed
  | .incNumMem z _ m => z.isBW && m.wellFormed
  | .decNumMem z _ m => z.isBW && m.wellFormed
  | .rlcMem z m => z.isBW && m.wellFormed
  | .rrcMem z m => z.isBW && m.wellFormed
  | .rlMem z m => z.isBW && m.wellFormed
  | .rrMem z m => z.isBW && m.wellFormed
  | .slaMem z m => z.isBW && m.wellFormed
  | .sraMem z m => z.isBW && m.wellFormed
  | .sllMem z m => z.isBW && m.wellFormed
  | .srlMem z m => z.isBW && m.wellFormed
  | .addRMem _ _ m => m.wellFormed
  | .addMemR _ m _ => m.wellFormed
  | .adcRMem _ _ m => m.wellFormed
  | .adcMemR _ m _ => m.wellFormed
  | .subRMem _ _ m => m.wellFormed
  | .subMemR _ m _ => m.wellFormed
  | .sbcRMem _ _ m => m.wellFormed
  | .sbcMemR _ m _ => m.wellFormed
  | .andRMem _ _ m => m.wellFormed
  | .andMemR _ m _ => m.wellFormed
  | .xorRMem _ _ m => m.wellFormed
  | .xorMemR _ m _ => m.wellFormed
  | .orRMem _ _ m => m.wellFormed
  | .orMemR _ m _ => m.wellFormed
  | .cpRMem _ _ m => m.wellFormed
  | .cpMemR _ m _ => m.wellFormed
  | .ldMemImm m _ => m.wellFormed
  | .ldwMemImm m _ => m.wellFormed
  | .popMem m => m.wellFormed
  | .popwMem m => m.wellFormed
  | .ldMemAbs16 m _ => m.wellFormed
  | .ldwMemAbs16 m _ => m.wellFormed
  | .ldaW _ m => m.wellFormed
  | .ldaL _ m => m.wellFormed
  | .ldarW _ _ => true
  | .ldarL _ _ => true
  | .andcfAMem m => m.wellFormed
  | .orcfAMem m => m.wellFormed
  | .xorcfAMem m => m.wellFormed
  | .ldcfAMem m => m.wellFormed
  | .stcfAMem m => m.wellFormed
  | .ldMemRB m _ => m.wellFormed
  | .ldMemRW m _ => m.wellFormed
  | .ldMemRL m _ => m.wellFormed
  | .andcfNumMem _ m => m.wellFormed
  | .orcfNumMem _ m => m.wellFormed
  | .xorcfNumMem _ m => m.wellFormed
  | .ldcfNumMem _ m => m.wellFormed
  | .stcfNumMem _ m => m.wellFormed
  | .tsetNumMem _ m => m.wellFormed
  | .resNumMem _ m => m.wellFormed
  | .setNumMem _ m => m.wellFormed
  | .chgNumMem _ m => m.wellFormed
  | .bitNumMem _ m => m.wellFormed
  | .jpMem _ m => m.wellFormed
  | .callMem _ m => m.wellFormed
  | .retCc _ => true
  | .prefixRegShort _ _ => true
  | .prefixRegExt z c => c.alignedAt z
  | .prefixMemInd _ _ => true
  | .prefixMemIndD8 _ _ _ => true
  | .prefixMemAbs8 _ _ => true
  | .prefixMemAbs16 _ _ => true
  | .prefixMemAbs24 _ _ => true
  | .prefixMemReg _ _ => true
  | .prefixMemRegD16 _ _ _ => true
  | .prefixMemRegR8 _ _ _ => true
  | .prefixMemRegR16 _ _ e => e.alignedAt .word
  | .prefixMemPreDec _ _ _ => true
  | .prefixMemPostInc _ _ _ => true
  | .nop => true
  | .pushSr => true
  | .popSr => true
  | .halt => true
  | .di => true
  | .reti => true
  | .incf => true
  | .decf => true
  | .ret => true
  | .rcf => true
  | .scf => true
  | .ccf => true
  | .zcf => true
  | .pushA => true
  | .popA => true
  | .exFF => true
  | .pushF => true
  | .popF => true
  | .undefined01 => true
  | .undefined04 => true
  | .undefined50 => true
  | .dummy1F => true
  | .undefinedC6 => true
  | .undefinedD6 => true
  | .undefinedE6 => true
  | .undefinedF6 => true
  | .undefinedF7 => true
  | .undefinedReg00 => true
  | .undefinedReg02 => true
  | .undefinedReg11 => true
  | .undefinedReg15 => true
  | .undefinedReg17 => true
  | .undefinedReg18 => true
  | .undefinedReg25 => true
  | .undefinedReg26 => true
  | .undefinedReg2D => true
  | .undefinedReg35 => true
  | .undefinedReg36 => true
  | .dummyReg1A => true
  | .dummyReg1D => true
  | .dummyReg1E => true
  | .dummyReg3B => true
  | .dummyReg3F => true
  | .undefinedSrc00 => true
  | .undefinedSrc05 => true
  | .undefinedSrc08 => true
  | .undefinedSrc18 => true
  | .undefinedSrc1A => true
  | .undefinedSrc1C => true
  | .undefinedSrc28 => true
  | .undefinedSrc70 => true
  | .undefinedDst03 => true
  | .undefinedDst07 => true
  | .undefinedDst08 => true
  | .undefinedDst10 => true
  | .undefinedDst17 => true
  | .undefinedDst18 => true
  | .undefinedDst2D => true
  | .undefinedDst2E => true
  | .undefinedDst38 => true
  | .undefinedDst48 => true
  | .undefinedDst58 => true
  | .undefinedDst68 => true
  | .undefinedDst70 => true
  | .dummyDst01 => true
  | .dummyDst05 => true
  | .dummyDst15 => true

end Sys2Proof
end

