-- ==== Sys2Proof/Decode.lean ====
section
/-! DEFINITION. Decoding and encoding (30_encoding.md). `decode` is total on any list of bytes: it
answers the instruction and the bytes after it, or rejects by name. It follows the procedure of R125:
the class by the first byte (R102), then the addressing bytes (R110), then the second opcode byte by the
maps R104, R117, R119, R120. `encode` after it writes an instruction's bytes from the same tables. -/

namespace Sys2Proof

/-! ### Codes of the fields -/

/-- The size code `zz` (30_encoding.md R103). -/
def Size.code : Size → BitVec 2
  | .byte => 0b00#2
  | .word => 0b01#2
  | .long => 0b10#2

/-- The size a code `zz` names; 11 never means a size (30_encoding.md R103). -/
def Size.ofCode (zz : BitVec 2) : Option Size :=
  match zz with
  | 0b00#2 => some .byte
  | 0b01#2 => some .word
  | 0b10#2 => some .long
  | _ => none

/-- The code `zz` of a memory prefix: a size for a source, 11 for a destination (30_encoding.md R102). -/
def memClassCode : Option Size → BitVec 2
  | some z => z.code
  | none => 0b11#2

/-- The 4-bit condition code (30_encoding.md R118). -/
def Cond.code : Cond → BitVec 4
  | .f => 0x0#4 | .lt => 0x1#4 | .le => 0x2#4 | .ule => 0x3#4
  | .ov => 0x4#4 | .mi => 0x5#4 | .z => 0x6#4 | .c => 0x7#4
  | .t => 0x8#4 | .ge => 0x9#4 | .gt => 0xa#4 | .ugt => 0xb#4
  | .nov => 0xc#4 | .pl => 0xd#4 | .nz => 0xe#4 | .nc => 0xf#4

/-- The condition of a 4-bit code; every code has one (30_encoding.md R118). -/
def Cond.ofCode (c : BitVec 4) : Cond :=
  match c with
  | 0x0#4 => .f | 0x1#4 => .lt | 0x2#4 => .le | 0x3#4 => .ule
  | 0x4#4 => .ov | 0x5#4 => .mi | 0x6#4 => .z | 0x7#4 => .c
  | 0x8#4 => .t | 0x9#4 => .ge | 0xa#4 => .gt | 0xb#4 => .ugt
  | 0xc#4 => .nov | 0xd#4 => .pl | 0xe#4 => .nz | _ => .nc

/-- The upper six bits of a register-map code, `r32'` (10_state.md R23, 30_encoding.md R110). -/
def LongReg.code (c : LongReg) : BitVec 6 :=
  match c.group with
  | .bank b => 0b00#2 ++ b ++ c.reg
  | .prev => 0b1101#4 ++ c.reg
  | .cur => 0b1110#4 ++ c.reg
  | .unbanked => 0b1111#4 ++ c.reg

/-- The register of the upper six bits of a code; codes 40H to CFH are not in the map
(10_state.md R23). -/
def LongReg.ofCode (c : BitVec 6) : Option LongReg :=
  let reg := c.extractLsb' 0 2
  match c.extractLsb' 2 4 with
  | 0x0#4 => some { group := .bank 0#2, reg }
  | 0x1#4 => some { group := .bank 1#2, reg }
  | 0x2#4 => some { group := .bank 2#2, reg }
  | 0x3#4 => some { group := .bank 3#2, reg }
  | 0xd#4 => some { group := .prev, reg }
  | 0xe#4 => some { group := .cur, reg }
  | 0xf#4 => some { group := .unbanked, reg }
  | _ => none

/-- The 8-bit register-map code (10_state.md R23). -/
def RegSel.code (c : RegSel) : Byte := c.whole.code ++ c.part

/-- The register of an 8-bit register-map code (10_state.md R23). -/
def RegSel.ofCode (c : Byte) : Option RegSel :=
  (LongReg.ofCode (c.extractLsb' 2 6)).map fun w => { whole := w, part := c.extractLsb' 0 2 }

/-- The step code of (-r32) and (r32+) (30_encoding.md R110). -/
def Step.code : Step → BitVec 2
  | .one => 0b00#2
  | .two => 0b01#2
  | .four => 0b10#2

/-- The step of a code; 11 is not defined (30_encoding.md R110, R112). -/
def Step.ofCode (c : BitVec 2) : Option Step :=
  match c with
  | 0b00#2 => some .one
  | 0b01#2 => some .two
  | 0b10#2 => some .four
  | _ => none

/-- The control register code cr (10_state.md R42). -/
def ControlReg.code : ControlReg → Byte
  | .dmas n => 0b000#3 ++ BitVec.ofNat 3 n ++ 0b00#2
  | .dmad n => 0b001#3 ++ BitVec.ofNat 3 n ++ 0b00#2
  | .dmac n => 0b010#3 ++ BitVec.ofNat 3 n ++ 0b00#2
  | .dmam n => 0b010#3 ++ BitVec.ofNat 3 n ++ 0b10#2
  | .intnest => 0x7c#8

/-- The control register of a code; a code outside the map names none (10_state.md R42, R45). -/
def ControlReg.ofCode (c : Byte) : Option ControlReg :=
  let n : Fin 8 := (c.extractLsb' 2 3).toFin
  match c.extractLsb' 5 3, c.extractLsb' 0 2 with
  | 0b000#3, 0b00#2 => some (.dmas n)
  | 0b001#3, 0b00#2 => some (.dmad n)
  | 0b010#3, 0b00#2 => some (.dmac n)
  | 0b010#3, 0b10#2 => some (.dmam n)
  | _, _ => if c = 0x7c#8 then some .intnest else none

/-! ### Little-endian fields (20_memory.md R73, 30_encoding.md R101) -/

/-- The two bytes of a 16-bit field, least significant first. -/
def le16 (v : BitVec 16) : List Byte := [v.extractLsb' 0 8, v.extractLsb' 8 8]

/-- The three bytes of a 24-bit field, least significant first. -/
def le24 (v : BitVec 24) : List Byte := [v.extractLsb' 0 8, v.extractLsb' 8 8, v.extractLsb' 16 8]

/-- The four bytes of a 32-bit field, least significant first. -/
def le32 (v : BitVec 32) : List Byte :=
  [v.extractLsb' 0 8, v.extractLsb' 8 8, v.extractLsb' 16 8, v.extractLsb' 24 8]

/-! ### Rejections -/

/-- Why a list of bytes is no instruction. The first three are the faults of 00_scope.md R9 that
decoding raises; `truncated` says that the list ends inside an instruction (a fetch from memory never
does: it always supplies the longest instruction's bytes). -/
inductive DecodeError where
  /-- 30_encoding.md R113, R116, R121, R122; 42_arithmetic.md R241; 41_block_transfer_search.md R200 -/
  | undefinedInstruction
  /-- 10_state.md R23 -/
  | undefinedRegisterCode
  /-- 10_state.md R45 -/
  | undefinedControlRegister
  /-- the list of bytes ends inside the instruction -/
  | truncated
  deriving DecidableEq, Repr

/-- A decoded instruction with the bytes after it, or the reason there is none. -/
abbrev Decoded := Except DecodeError (Instr × List Byte)

/-- The undefined instructions of 30_encoding.md R122. -/
def illegal : Decoded := .error .undefinedInstruction

/-- The instruction `i`, if its row lists the form (30_encoding.md R121). -/
def legalIf (ok : Bool) (i : Instr) (bs : List Byte) : Decoded :=
  if ok then .ok (i, bs) else illegal

/-! ### Fetching fields (30_encoding.md R101) -/

/-- Fetch8. -/
def with8 (bs : List Byte) (k : Byte → List Byte → Decoded) : Decoded :=
  match bs with
  | b0 :: t => k b0 t
  | _ => .error .truncated

/-- Fetch16. -/
def with16 (bs : List Byte) (k : BitVec 16 → List Byte → Decoded) : Decoded :=
  match bs with
  | b0 :: b1 :: t => k (b1 ++ b0) t
  | _ => .error .truncated

/-- Fetch24. -/
def with24 (bs : List Byte) (k : BitVec 24 → List Byte → Decoded) : Decoded :=
  match bs with
  | b0 :: b1 :: b2 :: t => k (b2 ++ b1 ++ b0) t
  | _ => .error .truncated

/-- Fetch32. -/
def with32 (bs : List Byte) (k : BitVec 32 → List Byte → Decoded) : Decoded :=
  match bs with
  | b0 :: b1 :: b2 :: b3 :: t => k (b3 ++ b2 ++ b1 ++ b0) t
  | _ => .error .truncated

/-- The `#4` byte 0000nnnn; a nonzero upper nibble is no defined encoding (30_encoding.md R116). -/
def withNum4 (bs : List Byte) (k : BitVec 4 → List Byte → Decoded) : Decoded :=
  with8 bs fun b t => if b.extractLsb' 4 4 = 0#4 then k (b.extractLsb' 0 4) t else illegal

/-- A register-map code byte (10_state.md R23). -/
def withSel (bs : List Byte) (k : RegSel → List Byte → Decoded) : Decoded :=
  with8 bs fun b t =>
    match RegSel.ofCode b with
    | some c => k c t
    | none => .error .undefinedRegisterCode

/-- A register-map code byte that must name a register of size `z` (10_state.md R23). -/
def withSelAt (z : Size) (bs : List Byte) (k : RegSel → List Byte → Decoded) : Decoded :=
  withSel bs fun c t => if c.alignedAt z then k c t else .error .undefinedRegisterCode

/-- A control register byte that must name a register of size `z` (10_state.md R45). -/
def withControl (z : Size) (bs : List Byte) (k : ControlReg → List Byte → Decoded) : Decoded :=
  with8 bs fun b t =>
    match ControlReg.ofCode b with
    | some c => if c.size = z then k c t else .error .undefinedControlRegister
    | none => .error .undefinedControlRegister

/-- An immediate of the operation's size, which selects the row (30_encoding.md R114). -/
def immBySize (z : Size) (bs : List Byte) (fb : BitVec 8 → Instr) (fw : BitVec 16 → Instr)
    (fl : BitVec 32 → Instr) : Decoded :=
  match z with
  | .byte => with8 bs fun i t => .ok (fb i, t)
  | .word => with16 bs fun i t => .ok (fw i, t)
  | .long => with32 bs fun i t => .ok (fl i, t)

/-- An immediate of byte or word size (30_encoding.md R114, R121). -/
def immBW (z : Size) (bs : List Byte) (fb : BitVec 8 → Instr) (fw : BitVec 16 → Instr) : Decoded :=
  match z with
  | .byte => with8 bs fun i t => .ok (fb i, t)
  | .word => with16 bs fun i t => .ok (fw i, t)
  | .long => illegal

/-! ### One-byte-opcode instructions (30_encoding.md R104) -/

/-- First bytes 00H to 7FH. -/
def decodeOneByte (b : Byte) (bs : List Byte) : Decoded :=
  let lo := b.extractLsb' 0 3
  let cc := Cond.ofCode (b.extractLsb' 0 4)
  match b.extractLsb' 3 5 with
  | 0b00000#5 =>
    match lo with
    | 0#3 => .ok (.nop, bs)
    | 1#3 => .ok (.undefined01, bs)
    | 2#3 => .ok (.pushSr, bs)
    | 3#3 => .ok (.popSr, bs)
    | 4#3 => .ok (.undefined04, bs)
    | 5#3 => .ok (.halt, bs)
    | 6#3 => with8 bs fun v t =>
        if v.extractLsb' 3 5 ≠ 0#5 then illegal
        else if v.extractLsb' 0 3 = 7#3 then .ok (.di, t)
        else .ok (.ei (v.extractLsb' 0 3), t)
    | _ => .ok (.reti, bs)
  | 0b00001#5 =>
    match lo with
    | 0#3 => with8 bs fun a t => with8 t fun i t => .ok (.ldAbs8Imm a i, t)
    | 1#3 => with8 bs fun i t => .ok (.pushImm i, t)
    | 2#3 => with8 bs fun a t => with16 t fun i t => .ok (.ldwAbs8Imm a i, t)
    | 3#3 => with16 bs fun i t => .ok (.pushwImm i, t)
    | 4#3 => .ok (.incf, bs)
    | 5#3 => .ok (.decf, bs)
    | 6#3 => .ok (.ret, bs)
    | _ => with16 bs fun d t => .ok (.retd d, t)
  | 0b00010#5 =>
    match lo with
    | 0#3 => .ok (.rcf, bs)
    | 1#3 => .ok (.scf, bs)
    | 2#3 => .ok (.ccf, bs)
    | 3#3 => .ok (.zcf, bs)
    | 4#3 => .ok (.pushA, bs)
    | 5#3 => .ok (.popA, bs)
    | 6#3 => .ok (.exFF, bs)
    | _ => with8 bs fun v t =>
        if v.extractLsb' 2 6 ≠ 0#6 then illegal else .ok (.ldf (v.extractLsb' 0 2), t)
  | 0b00011#5 =>
    match lo with
    | 0#3 => .ok (.pushF, bs)
    | 1#3 => .ok (.popF, bs)
    | 2#3 => with16 bs fun a t => .ok (.jpAbs16 a, t)
    | 3#3 => with24 bs fun a t => .ok (.jpAbs24 a, t)
    | 4#3 => with16 bs fun a t => .ok (.callAbs16 a, t)
    | 5#3 => with24 bs fun a t => .ok (.callAbs24 a, t)
    | 6#3 => with16 bs fun d t => .ok (.calr d, t)
    | _ => .ok (.dummy1F, bs)
  | 0b00100#5 => with8 bs fun i t => .ok (.ldRImmB lo i, t)
  | 0b00101#5 => .ok (.pushRW lo, bs)
  | 0b00110#5 => with16 bs fun i t => .ok (.ldRImmW lo i, t)
  | 0b00111#5 => .ok (.pushRL lo, bs)
  | 0b01000#5 => with32 bs fun i t => .ok (.ldRImmL lo i, t)
  | 0b01001#5 => .ok (.popRW lo, bs)
  | 0b01010#5 => .ok (.undefined50, bs)
  | 0b01011#5 => .ok (.popRL lo, bs)
  | 0b01100#5 | 0b01101#5 => with8 bs fun d t => .ok (.jr cc d, t)
  | 0b01110#5 | 0b01111#5 => with16 bs fun d t => .ok (.jrl cc d, t)
  | _ => illegal

/-! ### Second opcode byte after a register prefix (30_encoding.md R117) -/

/-- The rows `r,#` of MUL, MULS, DIV, DIVS: the destination must be a register of twice the operation
size (42_arithmetic.md R241). -/
def pairImm (z : Size) (r : RegOp) (bs : List Byte) (fb : BitVec 8 → Instr) (fw : BitVec 16 → Instr) :
    Decoded :=
  if r.pairAt z then immBW z bs fb fw else illegal

/-- A row with a `#4` byte, at byte and word size (30_encoding.md R116, R121). -/
def num4BW (z : Size) (bs : List Byte) (f : BitVec 4 → Instr) : Decoded :=
  if z.isBW then withNum4 bs fun n t => .ok (f n, t) else illegal

/-- A row with a 16-bit field, at one size only (30_encoding.md R121). -/
def word16At (ok : Bool) (bs : List Byte) (f : BitVec 16 → Instr) : Decoded :=
  if ok then with16 bs fun v t => .ok (f v, t) else illegal

/-- Second bytes 00H to 3FH after a register prefix. -/
def decodeRegLow (z : Size) (r : RegOp) (hi : BitVec 5) (lo : BitVec 3) (bs : List Byte) : Decoded :=
  match hi with
  | 0b00000#5 =>
    match lo with
    | 0#3 => .ok (.undefinedReg00, bs)
    | 1#3 => .ok (.undefinedReg00, bs)
    | 2#3 => .ok (.undefinedReg02, bs)
    | 3#3 => immBySize z bs (.ldrImmB r) (.ldrImmW r) (.ldrImmL r)
    | 4#3 => .ok (.pushr z r, bs)
    | 5#3 => .ok (.popr z r, bs)
    | 6#3 => legalIf z.isBW (.cpl z r) bs
    | _ => legalIf z.isBW (.neg z r) bs
  | 0b00001#5 =>
    match lo with
    | 0#3 => pairImm z r bs (.mulrImmB r) (.mulrImmW r)
    | 1#3 => pairImm z r bs (.mulsrImmB r) (.mulsrImmW r)
    | 2#3 => pairImm z r bs (.divrImmB r) (.divrImmW r)
    | 3#3 => pairImm z r bs (.divsrImmB r) (.divsrImmW r)
    | 4#3 => word16At (z == .long) bs (.link r)
    | 5#3 => legalIf (z == .long) (.unlk r) bs
    | 6#3 => legalIf (z == .word) (.bs1f r) bs
    | _ => legalIf (z == .word) (.bs1b r) bs
  | 0b00010#5 =>
    match lo with
    | 0#3 => legalIf (z == .byte) (.daa r) bs
    | 1#3 => .ok (.undefinedReg11, bs)
    | 2#3 => legalIf z.isWL (.extz z r) bs
    | 3#3 => legalIf z.isWL (.exts z r) bs
    | 4#3 => legalIf z.isWL (.paa z r) bs
    | 5#3 => .ok (.undefinedReg15, bs)
    | 6#3 => legalIf (z == .word) (.mirr r) bs
    | _ => .ok (.undefinedReg17, bs)
  | 0b00011#5 =>
    match lo with
    | 0#3 => .ok (.undefinedReg18, bs)
    | 1#3 => legalIf (z == .word && r.pairAt .word) (.mula r) bs
    | 2#3 => .ok (.dummyReg1A, bs)
    | 3#3 => .ok (.dummyReg1A, bs)
    | 4#3 => if z.isBW then with8 bs fun d t => .ok (.djnz z r d, t) else illegal
    | 5#3 => .ok (.dummyReg1D, bs)
    | 6#3 => .ok (.dummyReg1E, bs)
    | _ => .ok (.dummyReg1E, bs)
  | 0b00100#5 =>
    match lo with
    | 0#3 => num4BW z bs (.andcfNumr z · r)
    | 1#3 => num4BW z bs (.orcfNumr z · r)
    | 2#3 => num4BW z bs (.xorcfNumr z · r)
    | 3#3 => num4BW z bs (.ldcfNumr z · r)
    | 4#3 => num4BW z bs (.stcfNumr z · r)
    | 5#3 => .ok (.undefinedReg25, bs)
    | 6#3 => .ok (.undefinedReg26, bs)
    | _ => .ok (.undefinedReg26, bs)
  | 0b00101#5 =>
    match lo with
    | 0#3 => legalIf z.isBW (.andcfAr z r) bs
    | 1#3 => legalIf z.isBW (.orcfAr z r) bs
    | 2#3 => legalIf z.isBW (.xorcfAr z r) bs
    | 3#3 => legalIf z.isBW (.ldcfAr z r) bs
    | 4#3 => legalIf z.isBW (.stcfAr z r) bs
    | 5#3 => .ok (.undefinedReg2D, bs)
    | 6#3 => withControl z bs fun k t => .ok (.ldcCrr z k r, t)
    | _ => withControl z bs fun k t => .ok (.ldcrCr z r k, t)
  | 0b00110#5 =>
    match lo with
    | 0#3 => num4BW z bs (.resNumr z · r)
    | 1#3 => num4BW z bs (.setNumr z · r)
    | 2#3 => num4BW z bs (.chgNumr z · r)
    | 3#3 => num4BW z bs (.bitNumr z · r)
    | 4#3 => num4BW z bs (.tsetNumr z · r)
    | 5#3 => .ok (.undefinedReg35, bs)
    | 6#3 => .ok (.undefinedReg36, bs)
    | _ => .ok (.undefinedReg36, bs)
  | 0b00111#5 =>
    match lo with
    | 0#3 => word16At (z == .word) bs (.minc1 · r)
    | 1#3 => word16At (z == .word) bs (.minc2 · r)
    | 2#3 => word16At (z == .word) bs (.minc4 · r)
    | 3#3 => .ok (.dummyReg3B, bs)
    | 4#3 => word16At (z == .word) bs (.mdec1 · r)
    | 5#3 => word16At (z == .word) bs (.mdec2 · r)
    | 6#3 => word16At (z == .word) bs (.mdec4 · r)
    | _ => .ok (.dummyReg3F, bs)
  | _ => illegal

/-- The second bytes C8H to CFH after a register prefix: operation `r,#`. -/
def decodeRegImm (z : Size) (r : RegOp) (lo : BitVec 3) (bs : List Byte) : Decoded :=
  match lo with
  | 0#3 => immBySize z bs (.addrImmB r) (.addrImmW r) (.addrImmL r)
  | 1#3 => immBySize z bs (.adcrImmB r) (.adcrImmW r) (.adcrImmL r)
  | 2#3 => immBySize z bs (.subrImmB r) (.subrImmW r) (.subrImmL r)
  | 3#3 => immBySize z bs (.sbcrImmB r) (.sbcrImmW r) (.sbcrImmL r)
  | 4#3 => immBySize z bs (.andrImmB r) (.andrImmW r) (.andrImmL r)
  | 5#3 => immBySize z bs (.xorrImmB r) (.xorrImmW r) (.xorrImmL r)
  | 6#3 => immBySize z bs (.orrImmB r) (.orrImmW r) (.orrImmL r)
  | _ => immBySize z bs (.cprImmB r) (.cprImmW r) (.cprImmL r)

/-- The second bytes E8H to EFH after a register prefix: rotates and shifts by `#4`. -/
def decodeShiftNum (z : Size) (r : RegOp) (lo : BitVec 3) (bs : List Byte) : Decoded :=
  withNum4 bs fun n t =>
    match lo with
    | 0#3 => .ok (.rlcNumr z n r, t)
    | 1#3 => .ok (.rrcNumr z n r, t)
    | 2#3 => .ok (.rlNumr z n r, t)
    | 3#3 => .ok (.rrNumr z n r, t)
    | 4#3 => .ok (.slaNumr z n r, t)
    | 5#3 => .ok (.sraNumr z n r, t)
    | 6#3 => .ok (.sllNumr z n r, t)
    | _ => .ok (.srlNumr z n r, t)

/-- The second bytes F8H to FFH after a register prefix: rotates and shifts by A. -/
def decodeShiftA (z : Size) (r : RegOp) (lo : BitVec 3) (bs : List Byte) : Decoded :=
  match lo with
  | 0#3 => .ok (.rlcAr z r, bs)
  | 1#3 => .ok (.rrcAr z r, bs)
  | 2#3 => .ok (.rlAr z r, bs)
  | 3#3 => .ok (.rrAr z r, bs)
  | 4#3 => .ok (.slaAr z r, bs)
  | 5#3 => .ok (.sraAr z r, bs)
  | 6#3 => .ok (.sllAr z r, bs)
  | _ => .ok (.srlAr z r, bs)

/-- The second opcode byte `op` after a register prefix. -/
def decodeReg (z : Size) (r : RegOp) (op : Byte) (bs : List Byte) : Decoded :=
  let lo := op.extractLsb' 0 3
  match op.extractLsb' 3 5 with
  | 0b01000#5 => legalIf (z.isBW && pairField z lo) (.mulRr z lo r) bs
  | 0b01001#5 => legalIf (z.isBW && pairField z lo) (.mulsRr z lo r) bs
  | 0b01010#5 => legalIf (z.isBW && pairField z lo) (.divRr z lo r) bs
  | 0b01011#5 => legalIf (z.isBW && pairField z lo) (.divsRr z lo r) bs
  | 0b01100#5 => .ok (.incNumr z lo r, bs)
  | 0b01101#5 => .ok (.decNumr z lo r, bs)
  | 0b01110#5 | 0b01111#5 => legalIf z.isBW (.scc z (Cond.ofCode (op.extractLsb' 0 4)) r) bs
  | 0b10000#5 => .ok (.addRr z lo r, bs)
  | 0b10001#5 => .ok (.ldRr z lo r, bs)
  | 0b10010#5 => .ok (.adcRr z lo r, bs)
  | 0b10011#5 => .ok (.ldrR z r lo, bs)
  | 0b10100#5 => .ok (.subRr z lo r, bs)
  | 0b10101#5 => .ok (.ldrNum3 z r lo, bs)
  | 0b10110#5 => .ok (.sbcRr z lo r, bs)
  | 0b10111#5 => legalIf z.isBW (.exRr z lo r) bs
  | 0b11000#5 => .ok (.andRr z lo r, bs)
  | 0b11001#5 => decodeRegImm z r lo bs
  | 0b11010#5 => .ok (.xorRr z lo r, bs)
  | 0b11011#5 => legalIf z.isBW (.cprNum3 z r lo) bs
  | 0b11100#5 => .ok (.orRr z lo r, bs)
  | 0b11101#5 => decodeShiftNum z r lo bs
  | 0b11110#5 => .ok (.cpRr z lo r, bs)
  | 0b11111#5 => decodeShiftA z r lo bs
  | hi => decodeRegLow z r hi lo bs

/-! ### Second opcode byte after a source-memory prefix (30_encoding.md R119) -/

/-- The rows of a block transfer: first byte 83H or 93H, and 85H or 95H
(41_block_transfer_search.md R200). -/
def blockTransfer (z : Size) (m : MemOp) (deHl ixIy : Instr) (bs : List Byte) : Decoded :=
  match m with
  | .ind R =>
    if R = 3#3 then legalIf z.isBW deHl bs
    else if R = 5#3 then legalIf z.isBW ixIy bs
    else illegal
  | _ => illegal

/-- The rows of a block search: first byte 80H+R or 90H+R (41_block_transfer_search.md R200). -/
def blockSearch (z : Size) (m : MemOp) (f : BitVec 3 → Instr) (bs : List Byte) : Decoded :=
  match m with
  | .ind R => legalIf z.isBW (f R) bs
  | _ => illegal

/-- Second bytes 00H to 1FH after a source-memory prefix. -/
def decodeSrcLow (z : Size) (m : MemOp) (hi : BitVec 5) (lo : BitVec 3) (bs : List Byte) : Decoded :=
  match hi with
  | 0b00000#5 =>
    match lo with
    | 4#3 => legalIf z.isBW (.pushMem z m) bs
    | 5#3 => .ok (.undefinedSrc05, bs)
    | 6#3 => legalIf (z == .byte) (.rld m) bs
    | 7#3 => legalIf (z == .byte) (.rrd m) bs
    | _ => .ok (.undefinedSrc00, bs)
  | 0b00001#5 => .ok (.undefinedSrc08, bs)
  | 0b00010#5 =>
    match lo with
    | 0#3 => blockTransfer z m (.ldiDeHl z) (.ldiIxIy z) bs
    | 1#3 => blockTransfer z m (.ldirDeHl z) (.ldirIxIy z) bs
    | 2#3 => blockTransfer z m (.lddDeHl z) (.lddIxIy z) bs
    | 3#3 => blockTransfer z m (.lddrDeHl z) (.lddrIxIy z) bs
    | 4#3 => blockSearch z m (.cpi z) bs
    | 5#3 => blockSearch z m (.cpir z) bs
    | 6#3 => blockSearch z m (.cpd z) bs
    | _ => blockSearch z m (.cpdr z) bs
  | 0b00011#5 =>
    match lo with
    | 0#3 => .ok (.undefinedSrc18, bs)
    | 1#3 => word16At z.isBW bs (.ldAbs16Mem z · m)
    | 2#3 => .ok (.undefinedSrc1A, bs)
    | 3#3 => .ok (.undefinedSrc1A, bs)
    | _ => .ok (.undefinedSrc1C, bs)
  | _ => illegal

/-- The second bytes 38H to 3FH after a source-memory prefix: operation `(mem),#`. -/
def decodeMemImm (z : Size) (m : MemOp) (lo : BitVec 3) (bs : List Byte) : Decoded :=
  match lo with
  | 0#3 => immBW z bs (.addMemImmB m) (.addMemImmW m)
  | 1#3 => immBW z bs (.adcMemImmB m) (.adcMemImmW m)
  | 2#3 => immBW z bs (.subMemImmB m) (.subMemImmW m)
  | 3#3 => immBW z bs (.sbcMemImmB m) (.sbcMemImmW m)
  | 4#3 => immBW z bs (.andMemImmB m) (.andMemImmW m)
  | 5#3 => immBW z bs (.xorMemImmB m) (.xorMemImmW m)
  | 6#3 => immBW z bs (.orMemImmB m) (.orMemImmW m)
  | _ => immBW z bs (.cpMemImmB m) (.cpMemImmW m)

/-- The second bytes 78H to 7FH after a source-memory prefix: rotates and shifts of memory. -/
def decodeShiftMem (z : Size) (m : MemOp) (lo : BitVec 3) (bs : List Byte) : Decoded :=
  match lo with
  | 0#3 => legalIf z.isBW (.rlcMem z m) bs
  | 1#3 => legalIf z.isBW (.rrcMem z m) bs
  | 2#3 => legalIf z.isBW (.rlMem z m) bs
  | 3#3 => legalIf z.isBW (.rrMem z m) bs
  | 4#3 => legalIf z.isBW (.slaMem z m) bs
  | 5#3 => legalIf z.isBW (.sraMem z m) bs
  | 6#3 => legalIf z.isBW (.sllMem z m) bs
  | _ => legalIf z.isBW (.srlMem z m) bs

/-- The second opcode byte `op` after a source-memory prefix of size `z`. -/
def decodeSrc (z : Size) (m : MemOp) (op : Byte) (bs : List Byte) : Decoded :=
  let lo := op.extractLsb' 0 3
  match op.extractLsb' 3 5 with
  | 0b00100#5 => .ok (.ldRMem z lo m, bs)
  | 0b00101#5 => .ok (.undefinedSrc28, bs)
  | 0b00110#5 => legalIf z.isBW (.exMemR z m lo) bs
  | 0b00111#5 => decodeMemImm z m lo bs
  | 0b01000#5 => legalIf (z.isBW && pairField z lo) (.mulRMem z lo m) bs
  | 0b01001#5 => legalIf (z.isBW && pairField z lo) (.mulsRMem z lo m) bs
  | 0b01010#5 => legalIf (z.isBW && pairField z lo) (.divRMem z lo m) bs
  | 0b01011#5 => legalIf (z.isBW && pairField z lo) (.divsRMem z lo m) bs
  | 0b01100#5 => legalIf z.isBW (.incNumMem z lo m) bs
  | 0b01101#5 => legalIf z.isBW (.decNumMem z lo m) bs
  | 0b01110#5 => .ok (.undefinedSrc70, bs)
  | 0b01111#5 => decodeShiftMem z m lo bs
  | 0b10000#5 => .ok (.addRMem z lo m, bs)
  | 0b10001#5 => .ok (.addMemR z m lo, bs)
  | 0b10010#5 => .ok (.adcRMem z lo m, bs)
  | 0b10011#5 => .ok (.adcMemR z m lo, bs)
  | 0b10100#5 => .ok (.subRMem z lo m, bs)
  | 0b10101#5 => .ok (.subMemR z m lo, bs)
  | 0b10110#5 => .ok (.sbcRMem z lo m, bs)
  | 0b10111#5 => .ok (.sbcMemR z m lo, bs)
  | 0b11000#5 => .ok (.andRMem z lo m, bs)
  | 0b11001#5 => .ok (.andMemR z m lo, bs)
  | 0b11010#5 => .ok (.xorRMem z lo m, bs)
  | 0b11011#5 => .ok (.xorMemR z m lo, bs)
  | 0b11100#5 => .ok (.orRMem z lo m, bs)
  | 0b11101#5 => .ok (.orMemR z m lo, bs)
  | 0b11110#5 => .ok (.cpRMem z lo m, bs)
  | 0b11111#5 => .ok (.cpMemR z m lo, bs)
  | hi => decodeSrcLow z m hi lo bs

/-! ### Second opcode byte after a destination-memory prefix (30_encoding.md R120) -/

/-- Second bytes 00H to 3FH after a destination-memory prefix. -/
def decodeDstLow (m : MemOp) (hi : BitVec 5) (lo : BitVec 3) (bs : List Byte) : Decoded :=
  match hi with
  | 0b00000#5 =>
    match lo with
    | 0#3 => with8 bs fun i t => .ok (.ldMemImm m i, t)
    | 1#3 => .ok (.dummyDst01, bs)
    | 2#3 => with16 bs fun i t => .ok (.ldwMemImm m i, t)
    | 3#3 => .ok (.undefinedDst03, bs)
    | 4#3 => .ok (.popMem m, bs)
    | 5#3 => .ok (.dummyDst05, bs)
    | 6#3 => .ok (.popwMem m, bs)
    | _ => .ok (.undefinedDst07, bs)
  | 0b00001#5 => .ok (.undefinedDst08, bs)
  | 0b00010#5 =>
    match lo with
    | 4#3 => with16 bs fun a t => .ok (.ldMemAbs16 m a, t)
    | 5#3 => .ok (.dummyDst15, bs)
    | 6#3 => with16 bs fun a t => .ok (.ldwMemAbs16 m a, t)
    | 7#3 => .ok (.undefinedDst17, bs)
    | _ => .ok (.undefinedDst10, bs)
  | 0b00011#5 => .ok (.undefinedDst18, bs)
  | 0b00100#5 => .ok (.ldaW lo m, bs)
  | 0b00101#5 =>
    match lo with
    | 0#3 => .ok (.andcfAMem m, bs)
    | 1#3 => .ok (.orcfAMem m, bs)
    | 2#3 => .ok (.xorcfAMem m, bs)
    | 3#3 => .ok (.ldcfAMem m, bs)
    | 4#3 => .ok (.stcfAMem m, bs)
    | 5#3 => .ok (.undefinedDst2D, bs)
    | 6#3 => .ok (.undefinedDst2E, bs)
    | _ => .ok (.undefinedDst2E, bs)
  | 0b00110#5 => .ok (.ldaL lo m, bs)
  | 0b00111#5 => .ok (.undefinedDst38, bs)
  | _ => illegal

/-- The second opcode byte `op` after a destination-memory prefix. -/
def decodeDst (m : MemOp) (op : Byte) (bs : List Byte) : Decoded :=
  let lo := op.extractLsb' 0 3
  let cc := Cond.ofCode (op.extractLsb' 0 4)
  match op.extractLsb' 3 5 with
  | 0b01000#5 => .ok (.ldMemRB m lo, bs)
  | 0b01001#5 => .ok (.undefinedDst48, bs)
  | 0b01010#5 => .ok (.ldMemRW m lo, bs)
  | 0b01011#5 => .ok (.undefinedDst58, bs)
  | 0b01100#5 => .ok (.ldMemRL m lo, bs)
  | 0b01101#5 => .ok (.undefinedDst68, bs)
  | 0b01110#5 | 0b01111#5 => .ok (.undefinedDst70, bs)
  | 0b10000#5 => .ok (.andcfNumMem lo m, bs)
  | 0b10001#5 => .ok (.orcfNumMem lo m, bs)
  | 0b10010#5 => .ok (.xorcfNumMem lo m, bs)
  | 0b10011#5 => .ok (.ldcfNumMem lo m, bs)
  | 0b10100#5 => .ok (.stcfNumMem lo m, bs)
  | 0b10101#5 => .ok (.tsetNumMem lo m, bs)
  | 0b10110#5 => .ok (.resNumMem lo m, bs)
  | 0b10111#5 => .ok (.setNumMem lo m, bs)
  | 0b11000#5 => .ok (.chgNumMem lo m, bs)
  | 0b11001#5 => .ok (.bitNumMem lo m, bs)
  | 0b11010#5 | 0b11011#5 => .ok (.jpMem cc m, bs)
  | 0b11100#5 | 0b11101#5 => .ok (.callMem cc m, bs)
  | 0b11110#5 | 0b11111#5 => legalIf (m == .ind 0#3) (.retCc cc) bs
  | hi => decodeDstLow m hi lo bs

/-! ### Prefixes (30_encoding.md R105, R106, R110, R113) -/

/-- The row of a register prefix that nothing follows (log entry 16). -/
def loneReg (z : Size) : RegOp → Instr
  | .short r => .prefixRegShort z r
  | .ext c => .prefixRegExt z c

/-- The row of a memory prefix that nothing follows (log entry 16). -/
def loneMem (k : Option Size) : MemOp → Instr
  | .ind R => .prefixMemInd k R
  | .indD8 R d => .prefixMemIndD8 k R d
  | .abs8 a => .prefixMemAbs8 k a
  | .abs16 a => .prefixMemAbs16 k a
  | .abs24 a => .prefixMemAbs24 k a
  | .reg c => .prefixMemReg k c
  | .regD16 c d => .prefixMemRegD16 k c d
  | .regR8 c e => .prefixMemRegR8 k c e
  | .regR16 c e => .prefixMemRegR16 k c e
  | .preDec c t => .prefixMemPreDec k c t
  | .postInc c t => .prefixMemPostInc k c t

/-- What follows a register prefix. -/
def afterReg (z : Size) (r : RegOp) (bs : List Byte) : Decoded :=
  match bs with
  | [] => .ok (loneReg z r, [])
  | op :: t => decodeReg z r op t

/-- What follows a memory prefix: of size `z` for a source, none for a destination. -/
def afterMem (k : Option Size) (m : MemOp) (bs : List Byte) : Decoded :=
  match bs, k with
  | [], _ => .ok (loneMem k m, [])
  | op :: t, some z => decodeSrc z m op t
  | op :: t, none => decodeDst m op t

/-- The addressing byte of (-r32) and (r32+): register in the upper six bits, step in the lower two
(30_encoding.md R110, R112, R113). -/
def stepped (f : LongReg → Step → MemOp) (bs : List Byte) (k : MemOp → List Byte → Decoded) : Decoded :=
  with8 bs fun b t =>
    match LongReg.ofCode (b.extractLsb' 2 6), Step.ofCode (b.extractLsb' 0 2) with
    | some c, some s => k (f c s) t
    | none, _ => .error .undefinedRegisterCode
    | _, none => illegal

/-- The addressing bytes after a first byte whose low four bits are 0011 (30_encoding.md R110, R113). -/
def registerModes (bs : List Byte) (k : MemOp → List Byte → Decoded) : Decoded :=
  with8 bs fun b t =>
    if b = 0x03#8 then
      withSelAt .long t fun c t => withSel t fun e t => k (.regR8 c.whole e) t
    else if b = 0x07#8 then
      withSelAt .long t fun c t => withSelAt .word t fun e t => k (.regR16 c.whole e) t
    else
      match b.extractLsb' 0 2, LongReg.ofCode (b.extractLsb' 2 6) with
      | 0b00#2, some c => k (.reg c) t
      | 0b01#2, some c => with16 t fun d t => k (.regD16 c d) t
      | 0b00#2, none | 0b01#2, none => .error .undefinedRegisterCode
      | _, _ => illegal

/-- A memory prefix by bits 3 to 0 of its first byte, with bit 6 set (30_encoding.md R110). -/
def withMem (lo : BitVec 3) (bs : List Byte) (k : MemOp → List Byte → Decoded) : Decoded :=
  match lo with
  | 0#3 => with8 bs fun a t => k (.abs8 a) t
  | 1#3 => with16 bs fun a t => k (.abs16 a) t
  | 2#3 => with24 bs fun a t => k (.abs24 a) t
  | 3#3 => registerModes bs k
  | 4#3 => stepped .preDec bs k
  | _ => stepped .postInc bs k

/-- LDAR: the bytes after F3H 13H (40_load_exchange.md R183). -/
def decodeLdar (bs : List Byte) : Decoded :=
  with16 bs fun d t => with8 t fun op t =>
    match op.extractLsb' 3 5 with
    | 0b00100#5 => .ok (.ldarW (op.extractLsb' 0 3) d, t)
    | 0b00110#5 => .ok (.ldarL (op.extractLsb' 0 3) d, t)
    | _ => illegal

/-- The undefined first bytes C6H, D6H, E6H, F6H (30_encoding.md R122). -/
def undefinedX6 : Option Size → Instr
  | some .byte => .undefinedC6
  | some .word => .undefinedD6
  | some .long => .undefinedE6
  | none => .undefinedF6

/-- A first byte of 80H or more: `1 m z z q q q q` (30_encoding.md R102). -/
def decodeClass (b : Byte) (bs : List Byte) : Decoded :=
  let lo := b.extractLsb' 0 3
  let k := Size.ofCode (b.extractLsb' 4 2)
  match b.getLsbD 6, b.getLsbD 3 with
  | false, false => afterMem k (.ind lo) bs
  | false, true => with8 bs fun d t => afterMem k (.indD8 lo d) t
  | true, true =>
    match k with
    | some z => afterReg z (.short lo) bs
    | none => .ok (.swi lo, bs)
  | true, false =>
    match lo, k with
    | 6#3, k => .ok (undefinedX6 k, bs)
    | 7#3, some z => withSelAt z bs fun c t => afterReg z (.ext c) t
    | 7#3, none => .ok (.undefinedF7, bs)
    | lo, k => withMem lo bs fun m t => afterMem k m t

/-- The instruction at the head of a list of bytes, and the bytes after it (30_encoding.md R125). -/
def decode (bs : List Byte) : Decoded :=
  match bs with
  | [] => .error .truncated
  | b :: t =>
    if b.getLsbD 7 = false then decodeOneByte b t
    else
      match b, t with
      | 0xf3#8, 0x13#8 :: t => decodeLdar t
      | b, t => decodeClass b t

/-! ### Encoding -/

/-- The register prefix (30_encoding.md R105, R106). -/
def regBytes (z : Size) : RegOp → List Byte
  | .short r => [0b11#2 ++ z.code ++ 0b1#1 ++ r]
  | .ext c => [0b11#2 ++ z.code ++ 0b0111#4, c.code]

/-- The first byte of a memory prefix with mode bits `q` and bit 6 set (30_encoding.md R102, R110). -/
def memFirst (k : Option Size) (q : BitVec 4) : Byte := 0b11#2 ++ memClassCode k ++ q

/-- The memory prefix with its addressing bytes (30_encoding.md R110). -/
def memBytes (k : Option Size) : MemOp → List Byte
  | .ind R => [0b10#2 ++ memClassCode k ++ 0b0#1 ++ R]
  | .indD8 R d => [0b10#2 ++ memClassCode k ++ 0b1#1 ++ R, d]
  | .abs8 a => [memFirst k 0b0000#4, a]
  | .abs16 a => [memFirst k 0b0001#4] ++ le16 a
  | .abs24 a => [memFirst k 0b0010#4] ++ le24 a
  | .reg c => [memFirst k 0b0011#4, c.code ++ 0b00#2]
  | .regD16 c d => [memFirst k 0b0011#4, c.code ++ 0b01#2] ++ le16 d
  | .regR8 c e => [memFirst k 0b0011#4, 0x03#8, c.code ++ 0b00#2, e.code]
  | .regR16 c e => [memFirst k 0b0011#4, 0x07#8, c.code ++ 0b00#2, e.code]
  | .preDec c t => [memFirst k 0b0100#4, c.code ++ t.code]
  | .postInc c t => [memFirst k 0b0101#4, c.code ++ t.code]

/-- The first byte `100z0RRR` of the block instructions (41_block_transfer_search.md R200). -/
def blockFirst (z : Size) (R : BitVec 3) : Byte := 0b10#2 ++ z.code ++ 0b0#1 ++ R

/-- The bytes of an instruction, in address order (30_encoding.md R100 to R120). -/
def encode : Instr → List Byte
  | .ei n => [0x06#8, (0b00000#5 ++ n)]
  | .ldAbs8Imm a i => [0x08#8, a, i]
  | .pushImm i => [0x09#8, i]
  | .ldwAbs8Imm a i => [0x0a#8, a] ++ le16 i
  | .pushwImm i => [0x0b#8] ++ le16 i
  | .retd d => [0x0f#8] ++ le16 d
  | .ldf n => [0x17#8, (0b000000#6 ++ n)]
  | .jpAbs16 a => [0x1a#8] ++ le16 a
  | .jpAbs24 a => [0x1b#8] ++ le24 a
  | .callAbs16 a => [0x1c#8] ++ le16 a
  | .callAbs24 a => [0x1d#8] ++ le24 a
  | .calr d => [0x1e#8] ++ le16 d
  | .ldRImmB R i => [(0b00100#5 ++ R), i]
  | .pushRW R => [(0b00101#5 ++ R)]
  | .ldRImmW R i => [(0b00110#5 ++ R)] ++ le16 i
  | .pushRL R => [(0b00111#5 ++ R)]
  | .ldRImmL R i => [(0b01000#5 ++ R)] ++ le32 i
  | .popRW R => [(0b01001#5 ++ R)]
  | .popRL R => [(0b01011#5 ++ R)]
  | .jr cc d => [(0b0110#4 ++ cc.code), d]
  | .jrl cc d => [(0b0111#4 ++ cc.code)] ++ le16 d
  | .swi n => [(0b11111#5 ++ n)]
  | .ldrImmB r i => regBytes .byte r ++ [0x03#8, i]
  | .ldrImmW r i => regBytes .word r ++ [0x03#8] ++ le16 i
  | .ldrImmL r i => regBytes .long r ++ [0x03#8] ++ le32 i
  | .pushr z r => regBytes z r ++ [0x04#8]
  | .popr z r => regBytes z r ++ [0x05#8]
  | .cpl z r => regBytes z r ++ [0x06#8]
  | .neg z r => regBytes z r ++ [0x07#8]
  | .mulrImmB r i => regBytes .byte r ++ [0x08#8, i]
  | .mulrImmW r i => regBytes .word r ++ [0x08#8] ++ le16 i
  | .mulsrImmB r i => regBytes .byte r ++ [0x09#8, i]
  | .mulsrImmW r i => regBytes .word r ++ [0x09#8] ++ le16 i
  | .divrImmB r i => regBytes .byte r ++ [0x0a#8, i]
  | .divrImmW r i => regBytes .word r ++ [0x0a#8] ++ le16 i
  | .divsrImmB r i => regBytes .byte r ++ [0x0b#8, i]
  | .divsrImmW r i => regBytes .word r ++ [0x0b#8] ++ le16 i
  | .link r d => regBytes .long r ++ [0x0c#8] ++ le16 d
  | .unlk r => regBytes .long r ++ [0x0d#8]
  | .bs1f r => regBytes .word r ++ [0x0e#8]
  | .bs1b r => regBytes .word r ++ [0x0f#8]
  | .daa r => regBytes .byte r ++ [0x10#8]
  | .extz z r => regBytes z r ++ [0x12#8]
  | .exts z r => regBytes z r ++ [0x13#8]
  | .paa z r => regBytes z r ++ [0x14#8]
  | .mirr r => regBytes .word r ++ [0x16#8]
  | .mula r => regBytes .word r ++ [0x19#8]
  | .djnz z r d => regBytes z r ++ [0x1c#8, d]
  | .andcfNumr z n r => regBytes z r ++ [0x20#8, (0b0000#4 ++ n)]
  | .andcfAr z r => regBytes z r ++ [0x28#8]
  | .orcfNumr z n r => regBytes z r ++ [0x21#8, (0b0000#4 ++ n)]
  | .orcfAr z r => regBytes z r ++ [0x29#8]
  | .xorcfNumr z n r => regBytes z r ++ [0x22#8, (0b0000#4 ++ n)]
  | .xorcfAr z r => regBytes z r ++ [0x2a#8]
  | .ldcfNumr z n r => regBytes z r ++ [0x23#8, (0b0000#4 ++ n)]
  | .ldcfAr z r => regBytes z r ++ [0x2b#8]
  | .stcfNumr z n r => regBytes z r ++ [0x24#8, (0b0000#4 ++ n)]
  | .stcfAr z r => regBytes z r ++ [0x2c#8]
  | .ldcCrr z k r => regBytes z r ++ [0x2e#8, k.code]
  | .ldcrCr z r k => regBytes z r ++ [0x2f#8, k.code]
  | .resNumr z n r => regBytes z r ++ [0x30#8, (0b0000#4 ++ n)]
  | .setNumr z n r => regBytes z r ++ [0x31#8, (0b0000#4 ++ n)]
  | .chgNumr z n r => regBytes z r ++ [0x32#8, (0b0000#4 ++ n)]
  | .bitNumr z n r => regBytes z r ++ [0x33#8, (0b0000#4 ++ n)]
  | .tsetNumr z n r => regBytes z r ++ [0x34#8, (0b0000#4 ++ n)]
  | .minc1 i r => regBytes .word r ++ [0x38#8] ++ le16 i
  | .minc2 i r => regBytes .word r ++ [0x39#8] ++ le16 i
  | .minc4 i r => regBytes .word r ++ [0x3a#8] ++ le16 i
  | .mdec1 i r => regBytes .word r ++ [0x3c#8] ++ le16 i
  | .mdec2 i r => regBytes .word r ++ [0x3d#8] ++ le16 i
  | .mdec4 i r => regBytes .word r ++ [0x3e#8] ++ le16 i
  | .mulRr z R r => regBytes z r ++ [(0b01000#5 ++ R)]
  | .mulsRr z R r => regBytes z r ++ [(0b01001#5 ++ R)]
  | .divRr z R r => regBytes z r ++ [(0b01010#5 ++ R)]
  | .divsRr z R r => regBytes z r ++ [(0b01011#5 ++ R)]
  | .incNumr z n r => regBytes z r ++ [(0b01100#5 ++ n)]
  | .decNumr z n r => regBytes z r ++ [(0b01101#5 ++ n)]
  | .scc z cc r => regBytes z r ++ [(0b0111#4 ++ cc.code)]
  | .addRr z R r => regBytes z r ++ [(0b10000#5 ++ R)]
  | .adcRr z R r => regBytes z r ++ [(0b10010#5 ++ R)]
  | .subRr z R r => regBytes z r ++ [(0b10100#5 ++ R)]
  | .sbcRr z R r => regBytes z r ++ [(0b10110#5 ++ R)]
  | .andRr z R r => regBytes z r ++ [(0b11000#5 ++ R)]
  | .xorRr z R r => regBytes z r ++ [(0b11010#5 ++ R)]
  | .orRr z R r => regBytes z r ++ [(0b11100#5 ++ R)]
  | .cpRr z R r => regBytes z r ++ [(0b11110#5 ++ R)]
  | .ldRr z R r => regBytes z r ++ [(0b10001#5 ++ R)]
  | .ldrR z r R => regBytes z r ++ [(0b10011#5 ++ R)]
  | .ldrNum3 z r n => regBytes z r ++ [(0b10101#5 ++ n)]
  | .exRr z R r => regBytes z r ++ [(0b10111#5 ++ R)]
  | .addrImmB r i => regBytes .byte r ++ [0xc8#8, i]
  | .addrImmW r i => regBytes .word r ++ [0xc8#8] ++ le16 i
  | .addrImmL r i => regBytes .long r ++ [0xc8#8] ++ le32 i
  | .adcrImmB r i => regBytes .byte r ++ [0xc9#8, i]
  | .adcrImmW r i => regBytes .word r ++ [0xc9#8] ++ le16 i
  | .adcrImmL r i => regBytes .long r ++ [0xc9#8] ++ le32 i
  | .subrImmB r i => regBytes .byte r ++ [0xca#8, i]
  | .subrImmW r i => regBytes .word r ++ [0xca#8] ++ le16 i
  | .subrImmL r i => regBytes .long r ++ [0xca#8] ++ le32 i
  | .sbcrImmB r i => regBytes .byte r ++ [0xcb#8, i]
  | .sbcrImmW r i => regBytes .word r ++ [0xcb#8] ++ le16 i
  | .sbcrImmL r i => regBytes .long r ++ [0xcb#8] ++ le32 i
  | .andrImmB r i => regBytes .byte r ++ [0xcc#8, i]
  | .andrImmW r i => regBytes .word r ++ [0xcc#8] ++ le16 i
  | .andrImmL r i => regBytes .long r ++ [0xcc#8] ++ le32 i
  | .xorrImmB r i => regBytes .byte r ++ [0xcd#8, i]
  | .xorrImmW r i => regBytes .word r ++ [0xcd#8] ++ le16 i
  | .xorrImmL r i => regBytes .long r ++ [0xcd#8] ++ le32 i
  | .orrImmB r i => regBytes .byte r ++ [0xce#8, i]
  | .orrImmW r i => regBytes .word r ++ [0xce#8] ++ le16 i
  | .orrImmL r i => regBytes .long r ++ [0xce#8] ++ le32 i
  | .cprImmB r i => regBytes .byte r ++ [0xcf#8, i]
  | .cprImmW r i => regBytes .word r ++ [0xcf#8] ++ le16 i
  | .cprImmL r i => regBytes .long r ++ [0xcf#8] ++ le32 i
  | .cprNum3 z r n => regBytes z r ++ [(0b11011#5 ++ n)]
  | .rlcNumr z n r => regBytes z r ++ [0xe8#8, (0b0000#4 ++ n)]
  | .rrcNumr z n r => regBytes z r ++ [0xe9#8, (0b0000#4 ++ n)]
  | .rlNumr z n r => regBytes z r ++ [0xea#8, (0b0000#4 ++ n)]
  | .rrNumr z n r => regBytes z r ++ [0xeb#8, (0b0000#4 ++ n)]
  | .slaNumr z n r => regBytes z r ++ [0xec#8, (0b0000#4 ++ n)]
  | .sraNumr z n r => regBytes z r ++ [0xed#8, (0b0000#4 ++ n)]
  | .sllNumr z n r => regBytes z r ++ [0xee#8, (0b0000#4 ++ n)]
  | .srlNumr z n r => regBytes z r ++ [0xef#8, (0b0000#4 ++ n)]
  | .rlcAr z r => regBytes z r ++ [0xf8#8]
  | .rrcAr z r => regBytes z r ++ [0xf9#8]
  | .rlAr z r => regBytes z r ++ [0xfa#8]
  | .rrAr z r => regBytes z r ++ [0xfb#8]
  | .slaAr z r => regBytes z r ++ [0xfc#8]
  | .sraAr z r => regBytes z r ++ [0xfd#8]
  | .sllAr z r => regBytes z r ++ [0xfe#8]
  | .srlAr z r => regBytes z r ++ [0xff#8]
  | .pushMem z m => memBytes (some z) m ++ [0x04#8]
  | .rld m => memBytes (some .byte) m ++ [0x06#8]
  | .rrd m => memBytes (some .byte) m ++ [0x07#8]
  | .ldiDeHl z => [blockFirst z 3#3, 0x10#8]
  | .ldiIxIy z => [blockFirst z 5#3, 0x10#8]
  | .ldirDeHl z => [blockFirst z 3#3, 0x11#8]
  | .ldirIxIy z => [blockFirst z 5#3, 0x11#8]
  | .lddDeHl z => [blockFirst z 3#3, 0x12#8]
  | .lddIxIy z => [blockFirst z 5#3, 0x12#8]
  | .lddrDeHl z => [blockFirst z 3#3, 0x13#8]
  | .lddrIxIy z => [blockFirst z 5#3, 0x13#8]
  | .cpi z R => [blockFirst z R, 0x14#8]
  | .cpir z R => [blockFirst z R, 0x15#8]
  | .cpd z R => [blockFirst z R, 0x16#8]
  | .cpdr z R => [blockFirst z R, 0x17#8]
  | .ldAbs16Mem z a m => memBytes (some z) m ++ [0x19#8] ++ le16 a
  | .ldRMem z R m => memBytes (some z) m ++ [(0b00100#5 ++ R)]
  | .exMemR z m R => memBytes (some z) m ++ [(0b00110#5 ++ R)]
  | .addMemImmB m i => memBytes (some .byte) m ++ [0x38#8, i]
  | .addMemImmW m i => memBytes (some .word) m ++ [0x38#8] ++ le16 i
  | .adcMemImmB m i => memBytes (some .byte) m ++ [0x39#8, i]
  | .adcMemImmW m i => memBytes (some .word) m ++ [0x39#8] ++ le16 i
  | .subMemImmB m i => memBytes (some .byte) m ++ [0x3a#8, i]
  | .subMemImmW m i => memBytes (some .word) m ++ [0x3a#8] ++ le16 i
  | .sbcMemImmB m i => memBytes (some .byte) m ++ [0x3b#8, i]
  | .sbcMemImmW m i => memBytes (some .word) m ++ [0x3b#8] ++ le16 i
  | .andMemImmB m i => memBytes (some .byte) m ++ [0x3c#8, i]
  | .andMemImmW m i => memBytes (some .word) m ++ [0x3c#8] ++ le16 i
  | .xorMemImmB m i => memBytes (some .byte) m ++ [0x3d#8, i]
  | .xorMemImmW m i => memBytes (some .word) m ++ [0x3d#8] ++ le16 i
  | .orMemImmB m i => memBytes (some .byte) m ++ [0x3e#8, i]
  | .orMemImmW m i => memBytes (some .word) m ++ [0x3e#8] ++ le16 i
  | .cpMemImmB m i => memBytes (some .byte) m ++ [0x3f#8, i]
  | .cpMemImmW m i => memBytes (some .word) m ++ [0x3f#8] ++ le16 i
  | .mulRMem z R m => memBytes (some z) m ++ [(0b01000#5 ++ R)]
  | .mulsRMem z R m => memBytes (some z) m ++ [(0b01001#5 ++ R)]
  | .divRMem z R m => memBytes (some z) m ++ [(0b01010#5 ++ R)]
  | .divsRMem z R m => memBytes (some z) m ++ [(0b01011#5 ++ R)]
  | .incNumMem z n m => memBytes (some z) m ++ [(0b01100#5 ++ n)]
  | .decNumMem z n m => memBytes (some z) m ++ [(0b01101#5 ++ n)]
  | .rlcMem z m => memBytes (some z) m ++ [0x78#8]
  | .rrcMem z m => memBytes (some z) m ++ [0x79#8]
  | .rlMem z m => memBytes (some z) m ++ [0x7a#8]
  | .rrMem z m => memBytes (some z) m ++ [0x7b#8]
  | .slaMem z m => memBytes (some z) m ++ [0x7c#8]
  | .sraMem z m => memBytes (some z) m ++ [0x7d#8]
  | .sllMem z m => memBytes (some z) m ++ [0x7e#8]
  | .srlMem z m => memBytes (some z) m ++ [0x7f#8]
  | .addRMem z R m => memBytes (some z) m ++ [(0b10000#5 ++ R)]
  | .addMemR z m R => memBytes (some z) m ++ [(0b10001#5 ++ R)]
  | .adcRMem z R m => memBytes (some z) m ++ [(0b10010#5 ++ R)]
  | .adcMemR z m R => memBytes (some z) m ++ [(0b10011#5 ++ R)]
  | .subRMem z R m => memBytes (some z) m ++ [(0b10100#5 ++ R)]
  | .subMemR z m R => memBytes (some z) m ++ [(0b10101#5 ++ R)]
  | .sbcRMem z R m => memBytes (some z) m ++ [(0b10110#5 ++ R)]
  | .sbcMemR z m R => memBytes (some z) m ++ [(0b10111#5 ++ R)]
  | .andRMem z R m => memBytes (some z) m ++ [(0b11000#5 ++ R)]
  | .andMemR z m R => memBytes (some z) m ++ [(0b11001#5 ++ R)]
  | .xorRMem z R m => memBytes (some z) m ++ [(0b11010#5 ++ R)]
  | .xorMemR z m R => memBytes (some z) m ++ [(0b11011#5 ++ R)]
  | .orRMem z R m => memBytes (some z) m ++ [(0b11100#5 ++ R)]
  | .orMemR z m R => memBytes (some z) m ++ [(0b11101#5 ++ R)]
  | .cpRMem z R m => memBytes (some z) m ++ [(0b11110#5 ++ R)]
  | .cpMemR z m R => memBytes (some z) m ++ [(0b11111#5 ++ R)]
  | .ldMemImm m i => memBytes none m ++ [0x00#8, i]
  | .ldwMemImm m i => memBytes none m ++ [0x02#8] ++ le16 i
  | .popMem m => memBytes none m ++ [0x04#8]
  | .popwMem m => memBytes none m ++ [0x06#8]
  | .ldMemAbs16 m a => memBytes none m ++ [0x14#8] ++ le16 a
  | .ldwMemAbs16 m a => memBytes none m ++ [0x16#8] ++ le16 a
  | .ldaW R m => memBytes none m ++ [(0b00100#5 ++ R)]
  | .ldaL R m => memBytes none m ++ [(0b00110#5 ++ R)]
  | .ldarW R d => [0xf3#8, 0x13#8] ++ le16 d ++ [(0b00100#5 ++ R)]
  | .ldarL R d => [0xf3#8, 0x13#8] ++ le16 d ++ [(0b00110#5 ++ R)]
  | .andcfAMem m => memBytes none m ++ [0x28#8]
  | .orcfAMem m => memBytes none m ++ [0x29#8]
  | .xorcfAMem m => memBytes none m ++ [0x2a#8]
  | .ldcfAMem m => memBytes none m ++ [0x2b#8]
  | .stcfAMem m => memBytes none m ++ [0x2c#8]
  | .ldMemRB m R => memBytes none m ++ [(0b01000#5 ++ R)]
  | .ldMemRW m R => memBytes none m ++ [(0b01010#5 ++ R)]
  | .ldMemRL m R => memBytes none m ++ [(0b01100#5 ++ R)]
  | .andcfNumMem n m => memBytes none m ++ [(0b10000#5 ++ n)]
  | .orcfNumMem n m => memBytes none m ++ [(0b10001#5 ++ n)]
  | .xorcfNumMem n m => memBytes none m ++ [(0b10010#5 ++ n)]
  | .ldcfNumMem n m => memBytes none m ++ [(0b10011#5 ++ n)]
  | .stcfNumMem n m => memBytes none m ++ [(0b10100#5 ++ n)]
  | .tsetNumMem n m => memBytes none m ++ [(0b10101#5 ++ n)]
  | .resNumMem n m => memBytes none m ++ [(0b10110#5 ++ n)]
  | .setNumMem n m => memBytes none m ++ [(0b10111#5 ++ n)]
  | .chgNumMem n m => memBytes none m ++ [(0b11000#5 ++ n)]
  | .bitNumMem n m => memBytes none m ++ [(0b11001#5 ++ n)]
  | .jpMem cc m => memBytes none m ++ [(0b1101#4 ++ cc.code)]
  | .callMem cc m => memBytes none m ++ [(0b1110#4 ++ cc.code)]
  | .retCc cc => [0xb0#8, (0b1111#4 ++ cc.code)]
  | .prefixRegShort z r => regBytes z (.short r)
  | .prefixRegExt z c => regBytes z (.ext c)
  | .prefixMemInd k R => memBytes k (.ind R)
  | .prefixMemIndD8 k R d => memBytes k (.indD8 R d)
  | .prefixMemAbs8 k a => memBytes k (.abs8 a)
  | .prefixMemAbs16 k a => memBytes k (.abs16 a)
  | .prefixMemAbs24 k a => memBytes k (.abs24 a)
  | .prefixMemReg k c => memBytes k (.reg c)
  | .prefixMemRegD16 k c d => memBytes k (.regD16 c d)
  | .prefixMemRegR8 k c e => memBytes k (.regR8 c e)
  | .prefixMemRegR16 k c e => memBytes k (.regR16 c e)
  | .prefixMemPreDec k c t => memBytes k (.preDec c t)
  | .prefixMemPostInc k c t => memBytes k (.postInc c t)
  | .nop => [0x00#8]
  | .pushSr => [0x02#8]
  | .popSr => [0x03#8]
  | .halt => [0x05#8]
  | .di => [0x06#8, 0x07#8]
  | .reti => [0x07#8]
  | .incf => [0x0c#8]
  | .decf => [0x0d#8]
  | .ret => [0x0e#8]
  | .rcf => [0x10#8]
  | .scf => [0x11#8]
  | .ccf => [0x12#8]
  | .zcf => [0x13#8]
  | .pushA => [0x14#8]
  | .popA => [0x15#8]
  | .exFF => [0x16#8]
  | .pushF => [0x18#8]
  | .popF => [0x19#8]
  | .undefined01 => [0x01#8]
  | .undefined04 => [0x04#8]
  | .undefined50 => [0x50#8]
  | .dummy1F => [0x1f#8]
  | .undefinedC6 => [0xc6#8]
  | .undefinedD6 => [0xd6#8]
  | .undefinedE6 => [0xe6#8]
  | .undefinedF6 => [0xf6#8]
  | .undefinedF7 => [0xf7#8]
  | .undefinedReg00 => [0xc8#8, 0x00#8]
  | .undefinedReg02 => [0xc8#8, 0x02#8]
  | .undefinedReg11 => [0xc8#8, 0x11#8]
  | .undefinedReg15 => [0xc8#8, 0x15#8]
  | .undefinedReg17 => [0xc8#8, 0x17#8]
  | .undefinedReg18 => [0xc8#8, 0x18#8]
  | .undefinedReg25 => [0xc8#8, 0x25#8]
  | .undefinedReg26 => [0xc8#8, 0x26#8]
  | .undefinedReg2D => [0xc8#8, 0x2d#8]
  | .undefinedReg35 => [0xc8#8, 0x35#8]
  | .undefinedReg36 => [0xc8#8, 0x36#8]
  | .dummyReg1A => [0xc8#8, 0x1a#8]
  | .dummyReg1D => [0xc8#8, 0x1d#8]
  | .dummyReg1E => [0xc8#8, 0x1e#8]
  | .dummyReg3B => [0xc8#8, 0x3b#8]
  | .dummyReg3F => [0xc8#8, 0x3f#8]
  | .undefinedSrc00 => [0x80#8, 0x00#8]
  | .undefinedSrc05 => [0x80#8, 0x05#8]
  | .undefinedSrc08 => [0x80#8, 0x08#8]
  | .undefinedSrc18 => [0x80#8, 0x18#8]
  | .undefinedSrc1A => [0x80#8, 0x1a#8]
  | .undefinedSrc1C => [0x80#8, 0x1c#8]
  | .undefinedSrc28 => [0x80#8, 0x28#8]
  | .undefinedSrc70 => [0x80#8, 0x70#8]
  | .undefinedDst03 => [0xb0#8, 0x03#8]
  | .undefinedDst07 => [0xb0#8, 0x07#8]
  | .undefinedDst08 => [0xb0#8, 0x08#8]
  | .undefinedDst10 => [0xb0#8, 0x10#8]
  | .undefinedDst17 => [0xb0#8, 0x17#8]
  | .undefinedDst18 => [0xb0#8, 0x18#8]
  | .undefinedDst2D => [0xb0#8, 0x2d#8]
  | .undefinedDst2E => [0xb0#8, 0x2e#8]
  | .undefinedDst38 => [0xb0#8, 0x38#8]
  | .undefinedDst48 => [0xb0#8, 0x48#8]
  | .undefinedDst58 => [0xb0#8, 0x58#8]
  | .undefinedDst68 => [0xb0#8, 0x68#8]
  | .undefinedDst70 => [0xb0#8, 0x70#8]
  | .dummyDst01 => [0xb0#8, 0x01#8]
  | .dummyDst05 => [0xb0#8, 0x05#8]
  | .dummyDst15 => [0xb0#8, 0x15#8]

/-! ### The table's numbering of an instruction's bits -/

/-- The `n` bytes of the number `w` with its most significant byte first: how
spec/opcode_table.json numbers the bits of its rows (log entry 15). -/
def bytesHighFirst (n w : Nat) : List Byte :=
  (List.range n).map fun j => BitVec.ofNat 8 (w >>> (8 * (n - 1 - j)))

/-- The `n` bytes of the number `w` with its least significant byte first (log entry 15). -/
def bytesLowFirst (n w : Nat) : List Byte :=
  (List.range n).map fun j => BitVec.ofNat 8 (w >>> (8 * j))

/-- The bytes are exactly one instruction. -/
def isWhole (bs : List Byte) : Bool :=
  match decode bs with
  | .ok (_, []) => true
  | _ => false

/-- Operand bytes of zeros after the bytes a table row gives. -/
def zeroBytes : List Byte := List.replicate Config.maxLength 0x00#8

/-- The bytes begin an instruction whose remaining bytes are zeros. -/
def isBegun (bs : List Byte) : Bool :=
  match decode (bs ++ zeroBytes) with
  | .ok (_, t) => t.length ≤ zeroBytes.length
  | _ => false

/-- The bytes, in address order, of the instruction whose bits are `w`: the table's own numbering if
the bytes are one instruction in it, else the other numbering (log entry 15). -/
def tableBytes (nbits w : Nat) : List Byte :=
  let n := (nbits + 7) / 8
  let hi := bytesHighFirst n w
  let lo := bytesLowFirst n w
  if isWhole hi then hi
  else if isWhole lo then lo
  else if isBegun hi then hi
  else if isBegun lo then lo
  else hi

/-- The instruction the decoder reads from an instruction whose bits are `w`; bits above `nbits`
are zero. -/
def decodeTableWord (nbits w : Nat) : Option Instr :=
  let bs := tableBytes nbits w
  match decode bs with
  | .ok (i, []) => some i
  | _ =>
    match decode (bs ++ zeroBytes) with
    | .ok (i, _) => some i
    | .error _ => none

end Sys2Proof
end

