-- ==== Sys2Proof/Machine/Memory.lean ====
section
/-! DEFINITION. The address space: one linear space of 16M bytes (20_memory.md R70). What RAM and ROM
hold is a list of (address, byte) pairs in one canonical form; the parameter `MemoryMap` says which
addresses hold RAM, ROM, a device or nothing (00_scope.md R6, R71); devices see the accesses made of
them. The little-endian accesses (R73 to R75) are made of accesses to single bytes; none faults (R81). -/

namespace Sys2Proof.Machine

/-- The bytes of memory that differ from `Config.unlistedByte`, at strictly rising addresses. -/
abbrev Memory := List Host.Cell

/-- The number of byte addresses, 2^24 (20_memory.md R70). -/
def Memory.size : Nat := 0x1000000

/-- The byte at an address. -/
def Memory.read : Memory → Nat → Byte
  | [], _ => Config.unlistedByte
  | c :: t, a => if c.1 = a then c.2 else Memory.read t a

/-- The memory without what it lists at an address. -/
def Memory.erase (m : Memory) (a : Nat) : Memory := m.filter fun c => c.1 != a

/-- An entry put before the first entry of a higher address. -/
def Memory.insert : Memory → Nat → Byte → Memory
  | [], a, v => [(a, v)]
  | c :: t, a, v => if a < c.1 then (a, v) :: c :: t else c :: Memory.insert t a v

/-- One byte stored at an address, in canonical form: storing what an unlisted address reads as
removes the entry. -/
def Memory.write (m : Memory) (a : Nat) (v : Byte) : Memory :=
  if v = Config.unlistedByte then m.erase a else (m.erase a).insert a v

/-- The canonical form from an address bound on: strictly rising addresses below 2^24, none of them
listed with the unlisted byte. -/
def Memory.wfFrom : Nat → Memory → Bool
  | _, [] => true
  | lo, c :: t =>
    decide (lo ≤ c.1) && decide (c.1 < Memory.size) && decide (c.2 ≠ Config.unlistedByte)
      && Memory.wfFrom (c.1 + 1) t

/-- The canonical form of a memory. -/
def Memory.wf (m : Memory) : Bool := Memory.wfFrom 0 m

/-- The address presented to memory: bits 23 to 0 of a 32-bit address (20_memory.md R72). -/
def busAddr (a : Addr) : Nat := a.toNat % Memory.size

/-- The bus addresses of a k-byte access at `a` (20_memory.md R72). -/
def spanOf : Nat → Addr → List Nat
  | 0, _ => []
  | k + 1, a => busAddr a :: spanOf k (a + 1#32)

/-! ### The memory map (00_scope.md R6, 20_memory.md R71; decision D21; log entries 3 and 31) -/

/-- What an address holds. -/
inductive RegionKind where
  /-- memory that is read and written -/
  | ram
  /-- memory that is read only: a store leaves it (log entry 31) -/
  | rom
  /-- a device: see `Config.deviceByte` -/
  | device
  /-- nothing: an access is whatever the instance of `MemoryMap` says, as for a device -/
  | absent
  deriving DecidableEq, Repr

/-- Whether what is read there is a byte that memory holds. -/
def RegionKind.isMemory : RegionKind → Bool
  | .ram | .rom => true
  | .device | .absent => false

/-- The addresses from `first` to `last`, and what they hold. -/
structure Region where
  first : Nat
  last : Nat
  kind : RegionKind
  deriving DecidableEq, Repr

/-- The parameter `MemoryMap`: the first region that has an address says what it holds. -/
abbrev MemoryMap := List Region

/-- What an address holds: RAM where no region has it, so that the empty map is the default instance, in
which all 16M bytes are RAM (decision D21). -/
def MemoryMap.kindAt : MemoryMap → Nat → RegionKind
  | [], _ => .ram
  | r :: t, a => if r.first ≤ a ∧ a ≤ r.last then r.kind else MemoryMap.kindAt t a

/-- The address space as the core reaches it. -/
structure Bus where
  /-- The parameter `MemoryMap`; no step changes it. -/
  map : MemoryMap
  /-- What RAM and ROM hold. -/
  mem : Memory
  /-- The accesses of devices and of absent addresses so far, the latest first. -/
  accesses : List DeviceAccess
  deriving DecidableEq, Repr

/-- Memory is canonical and lists addresses of RAM and ROM only. -/
def Bus.wf (b : Bus) : Bool := b.mem.wf && b.mem.all fun c => (b.map.kindAt c.1).isMemory

/-! ### Accesses to one byte -/

/-- The byte that a read at an address answers (20_memory.md R74). -/
def Bus.read (b : Bus) (a : Nat) : Byte :=
  if (b.map.kindAt a).isMemory then b.mem.read a else Config.deviceByte b.accesses a

/-- What a read at an address leaves: a device has seen it; memory is as before (20_memory.md R87). -/
def Bus.noteRead (b : Bus) (a : Nat) : Bus :=
  if (b.map.kindAt a).isMemory then b else { b with accesses := .read a :: b.accesses }

/-- A byte written at an address: RAM holds it, ROM is as before, a device has seen it
(20_memory.md R75, R87; log entry 31). -/
def Bus.write (b : Bus) (a : Nat) (v : Byte) : Bus :=
  match b.map.kindAt a with
  | .ram => { b with mem := b.mem.write a v }
  | .rom => b
  | .device | .absent => { b with accesses := .write a v :: b.accesses }

/-- A byte put into memory from outside, as a program is loaded: the address holds RAM if it held no
memory (log entry 4). -/
def Bus.put (b : Bus) (a : Nat) (v : Byte) : Bus :=
  { b with
    mem := b.mem.write a v
    map := if (b.map.kindAt a).isMemory then b.map else { first := a, last := a, kind := .ram } :: b.map }

/-! ### Accesses to several bytes, in ascending address order (20_memory.md R72, R77) -/

/-- `MemRead(a, k)`: the k bytes at `a`, `a+1`, .., least significant first, each address taken
modulo 2^32 and then cut to 24 bits (20_memory.md R72, R74). -/
def Bus.loadLE (b : Bus) : Nat → Addr → Nat
  | 0, _ => 0
  | k + 1, a => (b.read (busAddr a)).toNat + 256 * Bus.loadLE (b.noteRead (busAddr a)) k (a + 1#32)

/-- What the k-byte read leaves. -/
def Bus.noteReads (b : Bus) : Nat → Addr → Bus
  | 0, _ => b
  | k + 1, a => Bus.noteReads (b.noteRead (busAddr a)) k (a + 1#32)

/-- `MemWrite(a, k, v)`: the low k bytes of `v`, least significant first (20_memory.md R72, R75). -/
def Bus.storeLE (b : Bus) : Nat → Addr → Nat → Bus
  | 0, _, _ => b
  | k + 1, a, v => Bus.storeLE (b.write (busAddr a) (BitVec.ofNat 8 v)) k (a + 1#32) (v / 256)

/-- The `k` bytes from `a` on, as instruction fetch reads them (30_encoding.md R101). -/
def Bus.bytesAt (b : Bus) : Nat → Addr → List Byte
  | 0, _ => []
  | k + 1, a => b.read (busAddr a) :: Bus.bytesAt (b.noteRead (busAddr a)) k (a + 1#32)

/-- The bytes of a list put into memory from `a` on. -/
def Bus.place (b : Bus) : Addr → List Byte → Bus
  | _, [] => b
  | a, v :: t => Bus.place (b.put (busAddr a) v) (a + 1#32) t

/-- The program counter after reset: the three bytes at the vector base address, PC[31:24] = 00H
(10_state.md R40, 70_reset_and_hazards.md R460; log entry 2). -/
def Bus.resetVector (b : Bus) : Addr := BitVec.ofNat 32 (b.loadLE 3 Config.vectorBase)

end Sys2Proof.Machine
end

