-- ==== Sys2Proof/Machine/State.lean ====
section
/-! DEFINITION. The state of the machine as plain data (10_state.md R20, R46), the reasons a step
stops, and the state after reset (10_state.md R47, 70_reset_and_hazards.md R460). -/

namespace Sys2Proof.Machine

/-- The six bits that F and F' store; their bits 5 and 3 are constants (10_state.md R33, R35, R36). -/
structure Flags where
  /-- sign, bit 7 -/
  s : Bool
  /-- zero, bit 6 -/
  z : Bool
  /-- half carry, bit 4 -/
  h : Bool
  /-- parity or overflow, bit 2 -/
  v : Bool
  /-- add/subtract, bit 1 -/
  n : Bool
  /-- carry, bit 0 -/
  c : Bool
  deriving DecidableEq, Repr

/-- The micro DMA transfer modes of 60_exceptions.md R436, in its table's order. -/
inductive DmaMode where
  /-- (DMADn+) <- (DMASn) -/
  | ioToMemInc
  /-- (DMADn-) <- (DMASn) -/
  | ioToMemDec
  /-- (DMADn) <- (DMASn+) -/
  | memToIoInc
  /-- (DMADn) <- (DMASn-) -/
  | memToIoDec
  /-- (DMADn) <- (DMASn+) -/
  | memToMemInc
  /-- (DMADn) <- (DMASn-) -/
  | memToMemDec
  /-- (DMADn) <- (DMASn) -/
  | ioToIo
  /-- DMASn <- DMASn + 1 -/
  | counter
  deriving DecidableEq, Repr

/-- What the outside presents at one sampling point (60_exceptions.md R422, R431, R436; log entry 8). -/
inductive Input where
  /-- nothing -/
  | quiet
  /-- an interrupt request (L, V): its level, and its vector offset V = 4 * vector (R422) -/
  | request (level : BitVec 3) (vector : BitVec 6)
  /-- one micro DMA transfer of a channel (R436) -/
  | microDma (channel : Fin 8) (mode : DmaMode) (size : Size)
  /-- reset (70_reset_and_hazards.md R460) -/
  | reset
  deriving DecidableEq, Repr

/-- Everything the machine holds. -/
structure State where
  /-- The general registers: XWA, XBC, XDE, XHL of banks 0 to 3 at 0 to 15, then XIX, XIY, XIZ, XSP at
  16 to 19 (10_state.md R20, R21, R25). -/
  gpr : Vector (BitVec 32) 20
  /-- The program counter (10_state.md R37). -/
  pc : Addr
  /-- SR bits 14 to 12, the interrupt mask (10_state.md R30). -/
  iff : BitVec 3
  /-- SR bits 9 and 8, the register file pointer (10_state.md R31). -/
  rfp : BitVec 2
  /-- F, SR bits 7 to 0 (10_state.md R33). -/
  flags : Flags
  /-- F', the alternate flag register (10_state.md R35). -/
  altFlags : Flags
  /-- DMAS0 to DMAS7 (10_state.md R42, R44). -/
  dmas : Vector (BitVec 32) 8
  /-- DMAD0 to DMAD7 (10_state.md R42, R44). -/
  dmad : Vector (BitVec 32) 8
  /-- DMAC0 to DMAC7 (10_state.md R42, R44). -/
  dmac : Vector (BitVec 16) 8
  /-- DMAM0 to DMAM7 (10_state.md R42, R44). -/
  dmam : Vector (BitVec 8) 8
  /-- The interrupt nesting counter (10_state.md R43). -/
  intnest : BitVec 16
  /-- Set by HALT (10_state.md R46, 60_exceptions.md R437). -/
  halted : Bool
  /-- The address space: the memory map, what memory holds, what devices have seen (20_memory.md R70,
  R71, R87; log entries 3 and 31). -/
  bus : Bus
  /-- What the outside presents at the coming sampling points; nothing when it is empty
  (60_exceptions.md R422, R436; log entry 8). -/
  inputs : List Input
  /-- The MODEL's own: how many undefined values have been drawn (00_scope.md R9; log entry 5). -/
  draws : Nat
  /-- The MODEL's own: the bus addresses the executing instruction has stored to, for the
  StaleFetchHazard test at its end; empty between steps (20_memory.md R85; log entry 6). -/
  written : List Nat
  /-- The MODEL's own: the repeating block instruction that still has items to do, so that its next
  item runs without a new fetch (41_block_transfer_search.md R202, R206; log entries 11 and 12). -/
  repeating : Option Instr
  deriving DecidableEq, Repr

/-- The model faults of 00_scope.md R9. The hardware defines no response; the run ends. All are SAFE:
the model stops where the hardware would do something the spec does not say. -/
inductive Fault where
  /-- Raised by step when the bytes at the program counter are no defined instruction, and by the
  meanings of the rows of undefined and dummy codes and of lone prefixes (30_encoding.md R113, R121,
  R122, R123). Safe. -/
  | undefinedInstruction
  /-- Raised by step when an instruction names a code outside the register map or a misaligned one
  (10_state.md R23). Safe. -/
  | undefinedRegisterCode
  /-- Raised by step, and by the meanings of LDC, for a control register code outside the map or a
  size that is not the register's (10_state.md R45). Safe. -/
  | undefinedControlRegister
  /-- Raised by step when an instruction stores into the prefetch windows (20_memory.md R85). Safe. -/
  | staleFetchHazard
  deriving DecidableEq, Repr

/-- Why the model has no meaning for an instruction. -/
inductive Refusal where
  /-- Raised by an arm of exec that is not written yet. Safe. No arm is left. -/
  | notModelled (mnemonic : String)
  deriving DecidableEq, Repr

/-- The outcome of an instruction or of a step. -/
abbrev Result := Host.Outcome State Fault Refusal

/-- The machine right after reset, over an address space that reset keeps (70_reset_and_hazards.md R460).
XSP, IFF, RFP, halted and PC are as R460 states; the other registers take the zeros named in log
entry 1 for `ResetUnspecified`, INTNEST and PC[31:24] the spec's own choice (log entry 2). The three
vector bytes are read as any others. -/
def State.resetWith (b : Bus) : State where
  gpr := Vector.replicate 20 0#32
  pc := b.resetVector
  iff := 0b111#3
  rfp := 0b00#2
  flags := { s := false, z := false, h := false, v := false, n := false, c := false }
  altFlags := { s := false, z := false, h := false, v := false, n := false, c := false }
  dmas := Vector.replicate 8 0#32
  dmad := Vector.replicate 8 0#32
  dmac := Vector.replicate 8 0#16
  dmam := Vector.replicate 8 0#8
  intnest := 0x0000#16
  halted := false
  bus := b.noteReads 3 Config.vectorBase
  inputs := []
  draws := 0
  written := []
  repeating := none

/-- The machine right after reset, with the default memory map and nothing in memory (log entries 3, 4
and 31). -/
def State.reset : State := State.resetWith { map := [], mem := [], accesses := [] }

end Sys2Proof.Machine
end

