-- ==== Sys2Proof/Machine/Ops.lean ====
section
/-! DEFINITION. The named operations over registers, memory, the stack, the status register and the
control registers; undefined values; taking an exception and returning from one; what happens at a
sampling point. -/

namespace Sys2Proof.Machine

/-! ### General registers (10_state.md R21 to R26) -/

/-- Where a 32-bit register of the register map is stored, under a register file pointer. The previous
bank is (RFP - 1) mod 4 (10_state.md R23, R26). -/
def gprIndex (rfp : BitVec 2) (c : LongReg) : Fin 20 :=
  match c.group with
  | .bank b => ⟨(b ++ c.reg).toNat, Nat.lt_of_lt_of_le (b ++ c.reg).isLt (by decide)⟩
  | .prev => ⟨((rfp - 1#2) ++ c.reg).toNat,
      Nat.lt_of_lt_of_le ((rfp - 1#2) ++ c.reg).isLt (by decide)⟩
  | .cur => ⟨(rfp ++ c.reg).toNat, Nat.lt_of_lt_of_le (rfp ++ c.reg).isLt (by decide)⟩
  | .unbanked => ⟨16 + c.reg.toNat, Nat.add_lt_add_left c.reg.isLt 16⟩

/-- `Reg(c, 32)` (10_state.md R23). -/
def State.readLong (s : State) (c : LongReg) : BitVec 32 := s.gpr[gprIndex s.rfp c]

/-- `Reg(c, 32) <- v`. -/
def State.writeLong (s : State) (c : LongReg) (v : BitVec 32) : State :=
  { s with gpr := s.gpr.set (gprIndex s.rfp c) v }

/-- A value with `n` of its bits, from bit `lo` on, replaced (10_state.md R22). -/
def insertBits {n : Nat} (w : BitVec 32) (lo : Nat) (v : BitVec n) : BitVec 32 :=
  (w &&& ~~~((BitVec.allOnes n).setWidth 32 <<< lo)) ||| (v.setWidth 32 <<< lo)

/-- The lowest bit of a register part inside its 32-bit register (10_state.md R22, R23). -/
def partLow (c : RegSel) : Nat := 8 * c.part.toNat

/-- `Reg(c, n)`: the part of size `z` at a register-map code (10_state.md R22, R23). -/
def State.readSel (s : State) (z : Size) (c : RegSel) : BitVec z.bits :=
  (s.readLong c.whole).extractLsb' (partLow c) z.bits

/-- `Reg(c, n) <- v`: a part is written and the other bits of the register keep their values
(10_state.md R22). -/
def State.writeSel (s : State) (z : Size) (c : RegSel) (v : BitVec z.bits) : State :=
  s.writeLong c.whole (insertBits (s.readLong c.whole) (partLow c) v)

/-- XSP (10_state.md R28). -/
def longXSP : LongReg := { group := .unbanked, reg := 3#2 }
/-- XBC of the current bank. -/
def longXBC : LongReg := { group := .cur, reg := 1#2 }
/-- XDE of the current bank. -/
def longXDE : LongReg := { group := .cur, reg := 2#2 }
/-- XHL of the current bank. -/
def longXHL : LongReg := { group := .cur, reg := 3#2 }
/-- XIX. -/
def longXIX : LongReg := { group := .unbanked, reg := 0#2 }
/-- XIY. -/
def longXIY : LongReg := { group := .unbanked, reg := 1#2 }
/-- Register-map code E0H: the current-bank A (byte), WA (word), XWA (long word) (10_state.md R23). -/
def selA : RegSel := { whole := { group := .cur, reg := 0#2 }, part := 0#2 }
/-- Register-map code E4H: the current-bank C (byte), BC (word). -/
def selBC : RegSel := { whole := longXBC, part := 0#2 }

/-- The current-bank A register (00_scope.md R11). -/
def State.regA (s : State) : BitVec 8 := s.readSel .byte selA

/-- The current-bank BC register (41_block_transfer_search.md). -/
def State.regBC (s : State) : BitVec 16 := s.readSel .word selBC

/-- The lower four bits of A (43_logic_bit.md R295, 45_rotate_shift.md R370). -/
def State.lowA (s : State) : BitVec 4 := s.regA.extractLsb' 0 4

/-! ### Memory accesses (20_memory.md R74, R75) -/

/-- `MemRead(a, sz)`: the value; `State.loaded` is the state after it. -/
def State.load (s : State) (z : Size) (a : Addr) : BitVec z.bits :=
  BitVec.ofNat z.bits (s.bus.loadLE z.bytes a)

/-- The state after `MemRead(a, sz)`: what devices have seen of it (20_memory.md R87). -/
def State.loaded (s : State) (z : Size) (a : Addr) : State :=
  { s with bus := s.bus.noteReads z.bytes a }

/-- `MemWrite(a, sz, v)`. The bytes stored to are noted for the test of 20_memory.md R85. -/
def State.store (s : State) (z : Size) (a : Addr) (v : BitVec z.bits) : State :=
  { s with bus := s.bus.storeLE z.bytes a v.toNat, written := spanOf z.bytes a ++ s.written }

/-- What an address holds (20_memory.md R71). -/
def State.kindAt (s : State) (a : Nat) : RegionKind := s.bus.map.kindAt a

/-- The byte that RAM or ROM holds at an address. -/
def State.byteAt (s : State) (a : Nat) : Byte := s.bus.mem.read a

/-! ### The stack (10_state.md R28, 00_scope.md R9) -/

/-- XSP. -/
def State.xsp (s : State) : BitVec 32 := s.readLong longXSP

/-- XSP <- v. -/
def State.setXsp (s : State) (v : BitVec 32) : State := s.writeLong longXSP v

/-- A size as a 32-bit number. -/
def sizeWord (z : Size) : BitVec 32 := BitVec.ofNat 32 z.bytes

/-- `Push(k, v)`: XSP <- XSP - k; MemWrite(XSP, k, v) (00_scope.md R9). -/
def State.push (s : State) (z : Size) (v : BitVec z.bits) : State :=
  (s.setXsp (s.xsp - sizeWord z)).store z (s.xsp - sizeWord z) v

/-- The value `Pop(k)` answers: MemRead(XSP, k) (00_scope.md R9). -/
def State.top (s : State) (z : Size) : BitVec z.bits := s.load z s.xsp

/-- The state after `Pop(k)`: the top of the stack is read, and XSP <- XSP + k (00_scope.md R9). -/
def State.dropTop (s : State) (z : Size) : State := (s.loaded z s.xsp).setXsp (s.xsp + sizeWord z)

/-! ### The status register (10_state.md R29 to R36) -/

/-- A bit as a 1-bit vector. -/
def bit1 (b : Bool) : BitVec 1 := BitVec.ofBool b

/-- The 8-bit flag register; bits 5 and 3 read 0 (10_state.md R33, R36). -/
def Flags.toByte (f : Flags) : BitVec 8 :=
  bit1 f.s ++ bit1 f.z ++ 0#1 ++ bit1 f.h ++ 0#1 ++ bit1 f.v ++ bit1 f.n ++ bit1 f.c

/-- The six flags of a byte; its bits 5 and 3 are discarded (10_state.md R33, R36). -/
def Flags.ofByte (b : BitVec 8) : Flags :=
  { s := b.getLsbD 7, z := b.getLsbD 6, h := b.getLsbD 4, v := b.getLsbD 2, n := b.getLsbD 1,
    c := b.getLsbD 0 }

/-- SR as a 16-bit word; bits 15 and 11 read 1, bits 10, 5 and 3 read 0 (10_state.md R29, R36). -/
def State.sr (s : State) : BitVec 16 :=
  1#1 ++ s.iff ++ 1#1 ++ 0#1 ++ s.rfp ++ s.flags.toByte

/-- SR <- v: the fields are written and the fixed bits of `v` discarded (10_state.md R36). -/
def State.setSr (s : State) (v : BitVec 16) : State :=
  { s with iff := v.extractLsb' 12 3, rfp := v.extractLsb' 8 2,
           flags := Flags.ofByte (v.extractLsb' 0 8) }

/-- F <- f. -/
def State.setFlags (s : State) (f : Flags) : State := { s with flags := f }

/-- F.C <- b, the other flags unchanged. -/
def State.setCarry (s : State) (b : Bool) : State := { s with flags := { s.flags with c := b } }

/-! ### The program counter (10_state.md R37 to R41) -/

/-- pc <- target. -/
def State.jump (s : State) (a : Addr) : State := { s with pc := a }

/-! ### Control registers (10_state.md R42 to R45) -/

/-- `CR[cr]`. -/
def State.readControl (s : State) (k : ControlReg) : BitVec k.size.bits :=
  match k with
  | .dmas n => s.dmas[n]
  | .dmad n => s.dmad[n]
  | .dmac n => s.dmac[n]
  | .dmam n => s.dmam[n]
  | .intnest => s.intnest

/-- `CR[cr] <- v`. -/
def State.writeControl (s : State) (k : ControlReg) (v : BitVec k.size.bits) : State :=
  match k with
  | .dmas n => { s with dmas := s.dmas.set n v }
  | .dmad n => { s with dmad := s.dmad.set n v }
  | .dmac n => { s with dmac := s.dmac.set n v }
  | .dmam n => { s with dmam := s.dmam.set n v }
  | .intnest => { s with intnest := v }

/-! ### Undefined values (00_scope.md R9 undef(k); log entries 5 and 30) -/

/-- The draw number `k` from now on. -/
def State.draw (s : State) (k : Nat) : BitVec 32 := Config.undefDraw (s.draws + k)

/-- `undef(1)`: one undefined bit. -/
def State.freeBit (s : State) (k : Nat) : Bool := (s.draw k).getLsbD 0

/-- `undef(n)`: an undefined value of a size. -/
def State.freeValue (s : State) (k : Nat) (z : Size) : BitVec z.bits := (s.draw k).setWidth z.bits

/-- The state after `k` draws. -/
def State.drew (s : State) (k : Nat) : State := { s with draws := s.draws + k }

/-! ### Taking an exception and returning from one (60_exceptions.md R421, R425, R426, R429) -/

/-- The 32-bit target in the vector table entry at offset `v` (60_exceptions.md R426). -/
def State.vector (s : State) (v : BitVec 32) : Addr := s.load .long (Config.vectorBase + v)

/-- The 6-byte frame pushed: SR at the new XSP and the 32-bit PC at XSP + 2. Interrupt entry stores PC
first and then SR (60_exceptions.md R425), SWI stores SR first (44_cpu_control.md R345); only a device
can see the difference. -/
def State.pushFrame (s : State) (pcFirst : Bool) : State :=
  let sp := s.xsp - 6#32
  let t := s.setXsp sp
  if pcFirst then (t.store .long (sp + 2#32) s.pc).store .word sp s.sr
  else (t.store .word sp s.sr).store .long (sp + 2#32) s.pc

/-- Taking an exception: the frame pushed, then the program counter from the vector at offset `v`. SWI
is exactly this (44_cpu_control.md R345); interrupt entry builds the same frame (60_exceptions.md R425).
The vector is read after the frame is stored (log entry 22). -/
def State.takeException (s : State) (pcFirst : Bool) (v : BitVec 32) : State :=
  let t := s.pushFrame pcFirst
  (t.loaded .long (Config.vectorBase + v)).jump (t.vector v)

/-- The level a request must reach to be accepted, max(IFF, 1) (60_exceptions.md R423). -/
def State.accepts (s : State) (level : BitVec 3) : Bool := decide (max s.iff.toNat 1 ≤ level.toNat)

/-- The mask after a request of level L: min(L + 1, 7) (60_exceptions.md R427). -/
def raisedMask (level : BitVec 3) : BitVec 3 := if level = 7#3 then 7#3 else level + 1#3

/-- The vector offset V = 4 * vector of a request (60_exceptions.md R422; log entry 27). -/
def vectorOffset (vector : BitVec 6) : BitVec 32 := (vector ++ 0#2).setWidth 32

/-- Interrupt entry for an accepted request (60_exceptions.md R425). A repeating block transfer that
still has items to do is left: its own address is the pushed PC (41_block_transfer_search.md R209). -/
def State.interruptEntry (s : State) (level : BitVec 3) (vector : BitVec 6) : State :=
  { s.takeException true (vectorOffset vector) with
    iff := raisedMask level, intnest := s.intnest + 1#16, halted := false, repeating := none }

/-- Return from an exception, RETI: SR and then PC from the frame, XSP past it, INTNEST less 1
(46_jump_call_return.md R398, 60_exceptions.md R429). -/
def State.returnFromException (s : State) : State :=
  let sr := s.load .word s.xsp
  let t := s.loaded .word s.xsp
  let pc := t.load .long (s.xsp + 2#32)
  { (((t.loaded .long (s.xsp + 2#32)).jump pc).setXsp (s.xsp + 6#32)).setSr sr with
    intnest := s.intnest - 1#16 }

/-! ### Micro DMA (60_exceptions.md R436; log entry 10) -/

/-- Moves one datum from the address in DMASn to the address in DMADn. -/
def State.dmaMove (s : State) (n : Fin 8) (z : Size) : State :=
  (s.loaded z s.dmas[n]).store z s.dmad[n] (s.load z s.dmas[n])

/-- Adds to DMASn. -/
def State.dmaStepSource (s : State) (n : Fin 8) (d : BitVec 32) : State :=
  { s with dmas := s.dmas.set n (s.dmas[n] + d) }

/-- Adds to DMADn. -/
def State.dmaStepDest (s : State) (n : Fin 8) (d : BitVec 32) : State :=
  { s with dmad := s.dmad.set n (s.dmad[n] + d) }

/-- One transfer of the list of 60_exceptions.md R436: one datum moved, then the marked register
stepped by the datum's size; counter mode only adds 1 to DMASn. -/
def State.dmaTransfer (s : State) (n : Fin 8) (mode : DmaMode) (z : Size) : State :=
  match mode with
  | .ioToMemInc => (s.dmaMove n z).dmaStepDest n (sizeWord z)
  | .ioToMemDec => (s.dmaMove n z).dmaStepDest n (-sizeWord z)
  | .memToIoInc | .memToMemInc => (s.dmaMove n z).dmaStepSource n (sizeWord z)
  | .memToIoDec | .memToMemDec => (s.dmaMove n z).dmaStepSource n (-sizeWord z)
  | .ioToIo => s.dmaMove n z
  | .counter => s.dmaStepSource n 1#32

/-! ### Sampling points (60_exceptions.md R423, R424, R431) -/

/-- What a sampling point comes to: an event is taken, or execution goes on. -/
inductive Sampled where
  | event (s : State)
  | goOn (s : State)
  deriving DecidableEq, Repr

/-- Reset as an event: memory is kept, devices see it, every register takes its reset value
(70_reset_and_hazards.md R460; log entries 29 and 31). -/
def State.resetEvent (s : State) : State :=
  { State.resetWith { s.bus with accesses := .reset :: s.bus.accesses } with
    inputs := s.inputs, draws := s.draws }

/-- One sampling point: the first of `inputs` is consumed. A request that is not accepted has no effect
(60_exceptions.md R423); a micro DMA transfer takes the place of an interrupt entry (R436); reset
overrides everything (R431). -/
def State.sample (s : State) : Sampled :=
  match s.inputs with
  | [] => .goOn s
  | .quiet :: t => .goOn { s with inputs := t }
  | .request l v :: t =>
    if s.accepts l then .event ({ s with inputs := t }.interruptEntry l v)
    else .goOn { s with inputs := t }
  | .microDma n mode z :: t => .event ({ s with inputs := t }.dmaTransfer n mode z)
  | .reset :: t => .event ({ s with inputs := t }.resetEvent)

end Sys2Proof.Machine
end

