-- ==== Sys2Proof/Machine/Operands.lean ====
section
/-! DEFINITION. Operands: register fields, register prefixes, memory operands with their effective
addresses and side effects, small immediate fields and condition codes (30_encoding.md R105 to R118). -/

namespace Sys2Proof.Machine

/-! ### Registers -/

/-- The current-bank register of a 3-bit code at a size: byte codes run W A B C D E H L, word and long
word codes name the current bank and then XIX, XIY, XIZ, XSP (10_state.md R24). -/
def shortSel (z : Size) (R : BitVec 3) : RegSel :=
  match z with
  | .byte =>
    { whole := { group := .cur, reg := R.extractLsb' 1 2 },
      part := if R.getLsbD 0 then 0#2 else 1#2 }
  | .word | .long =>
    { whole := { group := if R.getLsbD 2 then .unbanked else .cur, reg := R.extractLsb' 0 2 },
      part := 0#2 }

/-- The 32-bit current-bank register of a 3-bit code (10_state.md R24). -/
def shortLong (R : BitVec 3) : LongReg := (shortSel .long R).whole

/-- The register a register prefix names at a size (30_encoding.md R105 to R107). -/
def operandSel (z : Size) (r : RegOp) : RegSel :=
  match r with
  | .short R => shortSel z R
  | .ext c => c

/-- `Rn[R]` (30_encoding.md R108). -/
def State.readShort (s : State) (z : Size) (R : BitVec 3) : BitVec z.bits := s.readSel z (shortSel z R)

/-- `Rn[R] <- v`. -/
def State.writeShort (s : State) (z : Size) (R : BitVec 3) (v : BitVec z.bits) : State :=
  s.writeSel z (shortSel z R) v

/-- `reg_n` (30_encoding.md R107). -/
def State.readReg (s : State) (z : Size) (r : RegOp) : BitVec z.bits := s.readSel z (operandSel z r)

/-- `reg_n <- v`. -/
def State.writeReg (s : State) (z : Size) (r : RegOp) (v : BitVec z.bits) : State :=
  s.writeSel z (operandSel z r) v

/-- Twice an operation size: the size of the destination of MUL, MULS, DIV, DIVS (42_arithmetic.md
R240). A long word operation does not exist. -/
def doubleSize : Size → Size
  | .byte => .word
  | .word | .long => .long

/-! ### Memory operands (30_encoding.md R110 to R112) -/

/-- The step of a pre-decrement or post-increment, from its code (30_encoding.md R112; log entry 19). -/
def stepAmount : Step → BitVec 32
  | .one => 1#32
  | .two => 2#32
  | .four => 4#32

/-- The effective address, 32 bits, modulo 2^32 (30_encoding.md R111). -/
def State.ea (s : State) (m : MemOp) : Addr :=
  match m with
  | .ind R => s.readLong (shortLong R)
  | .indD8 R d => s.readLong (shortLong R) + d.signExtend 32
  | .abs8 a => a.setWidth 32
  | .abs16 a => a.setWidth 32
  | .abs24 a => a.setWidth 32
  | .reg c => s.readLong c
  | .regD16 c d => s.readLong c + d.signExtend 32
  | .regR8 c e => s.readLong c + (s.readSel .byte e).signExtend 32
  | .regR16 c e => s.readLong c + (s.readSel .word e).signExtend 32
  | .preDec c t => s.readLong c - stepAmount t
  | .postInc c _ => s.readLong c

/-- The register side effect of an addressing mode. It comes before the operands are read, whether or
not a condition later fails (30_encoding.md R111, R112; 00_scope.md R10). -/
def State.advance (s : State) (m : MemOp) : State :=
  match m with
  | .ind _ | .indD8 _ _ | .abs8 _ | .abs16 _ | .abs24 _ | .reg _ | .regD16 _ _ | .regR8 _ _
  | .regR16 _ _ => s
  | .preDec c t => s.writeLong c (s.readLong c - stepAmount t)
  | .postInc c t => s.writeLong c (s.readLong c + stepAmount t)

/-- The state after a memory operand is read: the address register stepped, the read done
(00_scope.md R10). The value read is `s.load z (s.ea m)`. -/
def State.afterRead (s : State) (z : Size) (m : MemOp) : State := (s.advance m).loaded z (s.ea m)

/-! ### Small immediate fields (30_encoding.md R116) -/

/-- The #3 of INC and DEC: 1 to 7, and 8 for code 0. -/
def incAmount (n : BitVec 3) : Nat := if n = 0#3 then 8 else n.toNat

/-- The count of a rotate or shift: 1 to 15, and 16 for code 0 (45_rotate_shift.md R370). -/
def shiftCount (n : BitVec 4) : Nat := if n = 0#4 then 16 else n.toNat

/-! ### Conditions (30_encoding.md R118) -/

/-- `cond(cc)` on the flags. -/
def condHolds (cc : Cond) (f : Flags) : Bool :=
  match cc with
  | .f => false
  | .lt => xor f.s f.v
  | .le => f.z || xor f.s f.v
  | .ule => f.c || f.z
  | .ov => f.v
  | .mi => f.s
  | .z => f.z
  | .c => f.c
  | .t => true
  | .ge => !(xor f.s f.v)
  | .gt => !(f.z || xor f.s f.v)
  | .ugt => !(f.c || f.z)
  | .nov => !f.v
  | .pl => !f.s
  | .nz => !f.z
  | .nc => !f.c

end Sys2Proof.Machine
end

