-- ==== Sys2Proof/Machine/Flags.lean ====
section
/-! DEFINITION. Results and flags: addition and subtraction (42_arithmetic.md R220, R221), logic
(43_logic_bit.md R290), rotates and shifts (45_rotate_shift.md R370 to R379), the decimal adjustment
table (42_arithmetic.md R232). `u` is an undefined bit wherever it appears. -/

namespace Sys2Proof.Machine

/-- 1 if the number of 1 bits is even (00_scope.md R9 parity_even). -/
def parityEven {n : Nat} (v : BitVec n) : Bool :=
  (List.range n).foldl (fun even i => xor even (v.getLsbD i)) true

/-- A half-carry flag: as given for bytes and words, undefined for long words (10_state.md R34). -/
def halfCarry (z : Size) (b u : Bool) : Bool :=
  match z with
  | .byte | .word => b
  | .long => u

/-- A parity flag: the parity of bytes and words, undefined for long words (10_state.md R34). -/
def parityFlag (z : Size) (v : BitVec z.bits) (u : Bool) : Bool :=
  match z with
  | .byte | .word => parityEven v
  | .long => u

/-- A value with the flags that go with it. -/
structure Computed (z : Size) where
  value : BitVec z.bits
  flags : Flags
  deriving DecidableEq, Repr

/-- `add_n(a, b, cin)` (42_arithmetic.md R220; V by log entry 14). -/
def addOf (z : Size) (a b : BitVec z.bits) (cin u : Bool) : Computed z :=
  let res := BitVec.ofNat z.bits (a.toNat + b.toNat + cin.toNat)
  { value := res,
    flags :=
      { s := res.msb
        z := res == 0
        h := halfCarry z (decide (a.toNat % 16 + b.toNat % 16 + cin.toNat > 15)) u
        v := a.msb == b.msb && res.msb != a.msb
        n := false
        c := decide (a.toNat + b.toNat + cin.toNat ≥ 2 ^ z.bits) } }

/-- `sub_n(a, b, bin)` (42_arithmetic.md R221; V by log entry 14). -/
def subOf (z : Size) (a b : BitVec z.bits) (bin u : Bool) : Computed z :=
  let res := BitVec.ofInt z.bits ((a.toNat : Int) - b.toNat - bin.toNat)
  { value := res,
    flags :=
      { s := res.msb
        z := res == 0
        h := halfCarry z (decide (a.toNat % 16 < b.toNat % 16 + bin.toNat)) u
        v := a.msb != b.msb && res.msb != a.msb
        n := true
        c := decide (a.toNat < b.toNat + bin.toNat) } }

/-- The result and flags of AND, OR, XOR; H is 1 for AND only (43_logic_bit.md R290). -/
def logicOf (z : Size) (res : BitVec z.bits) (h u : Bool) : Computed z :=
  { value := res,
    flags := { s := res.msb, z := res == 0, h, v := parityFlag z res u, n := false, c := false } }

/-- The eight operations that share the operand forms of 42_arithmetic.md R234. -/
inductive AluOp where
  | add | adc | sub | sbc | and | xor | or | cp
  deriving DecidableEq, Repr

/-- The result and flags of an operation: `a` is the first operand, `c` the carry flag before
(42_arithmetic.md R222 to R226, 43_logic_bit.md R291 to R293). -/
def aluOf (op : AluOp) (z : Size) (a b : BitVec z.bits) (c u : Bool) : Computed z :=
  match op with
  | .add => addOf z a b false u
  | .adc => addOf z a b c u
  | .sub | .cp => subOf z a b false u
  | .sbc => subOf z a b c u
  | .and => logicOf z (a &&& b) true u
  | .xor => logicOf z (a ^^^ b) false u
  | .or => logicOf z (a ||| b) false u

/-- CP writes no operand (42_arithmetic.md R226). -/
def aluWrites (op : AluOp) : Bool :=
  match op with
  | .cp => false
  | .add | .adc | .sub | .sbc | .and | .xor | .or => true

/-! ### Rotates and shifts -/

/-- The eight rotates and shifts, in the order of their codes (45_rotate_shift.md R370). -/
inductive ShiftOp where
  | rlc | rrc | rl | rr | sla | sra | sll | srl
  deriving DecidableEq, Repr

/-- One step: the operand and the carry flag before, and after (45_rotate_shift.md R372 to R379). -/
def shiftStep (op : ShiftOp) {n : Nat} (d : BitVec n) (c : Bool) : BitVec n × Bool :=
  let top := 1#n <<< (n - 1)
  match op with
  | .rlc => ((d <<< 1) ||| (if d.msb then 1#n else 0#n), d.msb)
  | .rrc => ((d >>> 1) ||| (if d.getLsbD 0 then top else 0#n), d.getLsbD 0)
  | .rl => ((d <<< 1) ||| (if c then 1#n else 0#n), d.msb)
  | .rr => ((d >>> 1) ||| (if c then top else 0#n), d.getLsbD 0)
  | .sla | .sll => (d <<< 1, d.msb)
  | .sra => ((d >>> 1) ||| (d &&& top), d.getLsbD 0)
  | .srl => (d >>> 1, d.getLsbD 0)

/-- `count` steps. -/
def shiftTimes (op : ShiftOp) {n : Nat} : Nat → BitVec n → Bool → BitVec n × Bool
  | 0, d, c => (d, c)
  | k + 1, d, c => shiftTimes op k (shiftStep op d c).1 (shiftStep op d c).2

/-- The result and flags of a rotate or shift (45_rotate_shift.md R371). -/
def shiftOf (op : ShiftOp) (z : Size) (count : Nat) (d : BitVec z.bits) (c u : Bool) : Computed z :=
  let r := shiftTimes op count d c
  { value := r.1,
    flags :=
      { s := r.1.msb, z := r.1 == 0, h := false, v := parityFlag z r.1 u, n := false, c := r.2 } }

/-- The flags of RLD and RRD: S, Z, V from A, H and N cleared, C unchanged
(45_rotate_shift.md R380, R381). -/
def digitFlags (a : BitVec 8) (f : Flags) : Flags :=
  { s := a.msb, z := a == 0, h := false, v := parityEven a, n := false, c := f.c }

/-! ### Bits -/

/-- Bit `i` replaced; a bit number past the width changes nothing. -/
def putBit {n : Nat} (v : BitVec n) (i : Nat) (b : Bool) : BitVec n :=
  if b then v ||| (1#n <<< i) else v &&& ~~~(1#n <<< i)

/-- The operations of ANDCF, ORCF, XORCF, LDCF on the carry flag and a bit
(43_logic_bit.md R296, R298 to R300). -/
inductive CarryOp where
  | and | or | xor | load
  deriving DecidableEq, Repr

/-- The new carry flag. -/
def carryOf (op : CarryOp) (c b : Bool) : Bool :=
  match op with
  | .and => c && b
  | .or => c || b
  | .xor => xor c b
  | .load => b

/-- The operations of RES, SET, CHG on a bit (43_logic_bit.md R306 to R308). -/
inductive BitOp where
  | res | set | chg
  deriving DecidableEq, Repr

/-- The new value of the bit. -/
def bitOf (op : BitOp) (b : Bool) : Bool :=
  match op with
  | .res => false
  | .set => true
  | .chg => !b

/-- The operand after RES, SET or CHG of bit `i`. -/
def modifyBit (op : BitOp) {n : Nat} (v : BitVec n) (i : Nat) : BitVec n :=
  putBit v i (bitOf op (v.getLsbD i))

/-- The number of the lowest bit that is 1 (43_logic_bit.md R310). -/
def lowestOne (v : BitVec 16) : Option Nat := (List.range 16).find? fun i => v.getLsbD i

/-- The number of the highest bit that is 1 (43_logic_bit.md R311). -/
def highestOne (v : BitVec 16) : Option Nat := (List.range 16).reverse.find? fun i => v.getLsbD i

/-! ### Decimal adjustment (42_arithmetic.md R232) -/

/-- A row of the table of R232: the inputs it covers, what it adds and C after. -/
structure DaaRow where
  n : Bool
  c : Bool
  upperFrom : Nat
  upperTo : Nat
  h : Bool
  lowerFrom : Nat
  lowerTo : Nat
  added : BitVec 8
  carry : Bool
  deriving DecidableEq, Repr

/-- The thirteen rows of R232, in its order. -/
def daaTable : List DaaRow := [
  ⟨false, false, 0x0, 0x9, false, 0x0, 0x9, 0x00#8, false⟩,
  ⟨false, false, 0x0, 0x8, false, 0xA, 0xF, 0x06#8, false⟩,
  ⟨false, false, 0x0, 0x9, true, 0x0, 0x3, 0x06#8, false⟩,
  ⟨false, false, 0xA, 0xF, false, 0x0, 0x9, 0x60#8, true⟩,
  ⟨false, false, 0x9, 0xF, false, 0xA, 0xF, 0x66#8, true⟩,
  ⟨false, false, 0xA, 0xF, true, 0x0, 0x3, 0x66#8, true⟩,
  ⟨false, true, 0x0, 0x2, false, 0x0, 0x9, 0x60#8, true⟩,
  ⟨false, true, 0x0, 0x2, false, 0xA, 0xF, 0x66#8, true⟩,
  ⟨false, true, 0x0, 0x3, true, 0x0, 0x3, 0x66#8, true⟩,
  ⟨true, false, 0x0, 0x9, false, 0x0, 0x9, 0x00#8, false⟩,
  ⟨true, false, 0x0, 0x8, true, 0x6, 0xF, 0xFA#8, false⟩,
  ⟨true, true, 0x7, 0xF, false, 0x0, 0x9, 0xA0#8, true⟩,
  ⟨true, true, 0x6, 0xF, true, 0x6, 0xF, 0x9A#8, true⟩]

/-- The row covers a value under the flags before. -/
def daaCovers (f : Flags) (d : BitVec 8) (r : DaaRow) : Bool :=
  r.n == f.n && r.c == f.c && r.h == f.h
    && decide (r.upperFrom ≤ d.toNat / 16) && decide (d.toNat / 16 ≤ r.upperTo)
    && decide (r.lowerFrom ≤ d.toNat % 16) && decide (d.toNat % 16 ≤ r.lowerTo)

/-- The row of the table for a value under the flags before, if there is one. -/
def daaRow (f : Flags) (d : BitVec 8) : Option DaaRow := daaTable.find? (daaCovers f d)

/-- The adjusted value and the flags of a row; N is unchanged. -/
def daaApply (f : Flags) (d : BitVec 8) (r : DaaRow) : Computed .byte :=
  let res := d + r.added
  { value := res,
    flags :=
      { s := res.msb
        z := res == 0
        h := decide (d.toNat % 16 + r.added.toNat % 16 > 15)
        v := parityEven res
        n := f.n
        c := r.carry } }

end Sys2Proof.Machine
end

