-- ==== Sys2Proof/Machine/Shared.lean ====
section
/-! DEFINITION. What the instructions of a family share: an operation on a register or on memory with
all it writes. Each takes the state after the instruction is fetched and after the register side effect
of its memory operand (00_scope.md R10). An instruction whose flags or result may be undefined draws the
same number of values whatever its operands are (log entry 30). -/

namespace Sys2Proof.Machine

/-! ### ADD, ADC, SUB, SBC, AND, XOR, OR, CP (42_arithmetic.md R234) -/

/-- The operation with the current carry flag and the next undefined bit. -/
def State.alu (s : State) (op : AluOp) (z : Size) (a b : BitVec z.bits) : Computed z :=
  aluOf op z a b s.flags.c (s.freeBit 0)

/-- A register as first operand and destination. -/
def State.aluReg (s : State) (op : AluOp) (z : Size) (d : RegSel) (b : BitVec z.bits) : State :=
  let r := s.alu op z (s.readSel z d) b
  let t := if aluWrites op then s.writeSel z d r.value else s
  (t.setFlags r.flags).drew 1

/-- A memory location as first operand and destination: read once, then written once. -/
def State.aluMem (s : State) (op : AluOp) (z : Size) (a : Addr) (b : BitVec z.bits) : State :=
  let r := s.alu op z (s.load z a) b
  let t := s.loaded z a
  let t := if aluWrites op then t.store z a r.value else t
  (t.setFlags r.flags).drew 1

/-! ### INC and DEC (42_arithmetic.md R227, R228) -/

/-- The result of INC or DEC; C never changes. -/
def State.incOf (s : State) (down : Bool) (z : Size) (n : BitVec 3) (a : BitVec z.bits) : Computed z :=
  let b := BitVec.ofNat z.bits (incAmount n)
  let r := if down then subOf z a b false false else addOf z a b false false
  { r with flags := { r.flags with c := s.flags.c } }

/-- INC or DEC of a register: flags are written for a byte register only. -/
def State.incReg (s : State) (down : Bool) (z : Size) (n : BitVec 3) (d : RegSel) : State :=
  let r := s.incOf down z n (s.readSel z d)
  let t := s.writeSel z d r.value
  match z with
  | .byte => t.setFlags r.flags
  | .word | .long => t

/-- INC or DEC of a byte or word of memory. -/
def State.incMem (s : State) (down : Bool) (z : Size) (n : BitVec 3) (a : Addr) : State :=
  let r := s.incOf down z n (s.load z a)
  ((s.loaded z a).store z a r.value).setFlags r.flags

/-! ### MUL, MULS, DIV, DIVS (42_arithmetic.md R240 to R245) -/

/-- The product of the lower half and the source, unsigned or signed (R242, R243). -/
def productOf (signed : Bool) (z : Size) (a b : BitVec z.bits) : BitVec (doubleSize z).bits :=
  if signed then BitVec.ofInt _ (a.toInt * b.toInt) else BitVec.ofNat _ (a.toNat * b.toNat)

/-- The destination of twice the operation size, whose lower half is the register `d` (R241). -/
def State.mulReg (s : State) (signed : Bool) (z : Size) (d : RegSel) (b : BitVec z.bits) : State :=
  s.writeSel (doubleSize z) d (productOf signed z (s.readSel z d) b)

/-- Quotient in the lower half, remainder in the upper half; none where the result is undefined: a
divisor of 0, or a quotient too large (R244). -/
def quotientOf (z : Size) (a : BitVec (doubleSize z).bits) (b : BitVec z.bits) :
    Option (BitVec (doubleSize z).bits) :=
  if b = 0 ∨ a.toNat / b.toNat ≥ 2 ^ z.bits then none
  else some (BitVec.ofNat _ (a.toNat / b.toNat + 2 ^ z.bits * (a.toNat % b.toNat)))

/-- The same, signed: the quotient is truncated toward zero and the remainder takes the sign of the
dividend (R245). -/
def signedQuotientOf (z : Size) (a : BitVec (doubleSize z).bits) (b : BitVec z.bits) :
    Option (BitVec (doubleSize z).bits) :=
  let q := a.toInt.tdiv b.toInt
  let m := a.toInt.tmod b.toInt
  if b = 0 ∨ q < -(2 ^ (z.bits - 1) : Int) ∨ q > (2 ^ (z.bits - 1) : Int) - 1 then none
  else some (BitVec.ofNat _
    ((BitVec.ofInt z.bits q).toNat + 2 ^ z.bits * (BitVec.ofInt z.bits m).toNat))

/-- DIV or DIVS: V is set and the destination undefined where there is no result
(R244, R245; log entry 24). -/
def State.divReg (s : State) (signed : Bool) (z : Size) (d : RegSel) (b : BitVec z.bits) : State :=
  let a := s.readSel (doubleSize z) d
  let r := if signed then signedQuotientOf z a b else quotientOf z a b
  ((s.writeSel (doubleSize z) d (r.getD (s.freeValue 0 (doubleSize z)))).setFlags
    { s.flags with v := r.isNone }).drew 1

/-! ### MINC and MDEC (42_arithmetic.md R235, R247 to R252) -/

/-- The modulo is a power of two, 2^from to 2^15 (R235). -/
def validModulo (lowest num : Nat) : Bool :=
  (List.range 16).any fun e => decide (lowest ≤ e) && num == 2 ^ e

/-- The stepped value: wrapped inside its block of `num`, else moved by `k`. -/
def moduloStep (down : Bool) (k num : Nat) (d : BitVec 16) : BitVec 16 :=
  if down then
    if d.toNat % num = 0 then d + BitVec.ofNat 16 (num - k) else d - BitVec.ofNat 16 k
  else
    if d.toNat % num = num - k then d - BitVec.ofNat 16 (num - k) else d + BitVec.ofNat 16 k

/-- MINC or MDEC with the encoded immediate `i` = num - k: the result is undefined where num is no such
power of two (R235; log entry 24). -/
def State.moduloReg (s : State) (down : Bool) (k lowest : Nat) (i : BitVec 16) (r : RegOp) : State :=
  let num := i.toNat + k
  let v := if validModulo lowest num then moduloStep down k num (s.readReg .word r)
    else s.freeValue 0 .word
  (s.writeReg .word r v).drew 1

/-! ### Rotates and shifts (45_rotate_shift.md) -/

/-- A rotate or shift of a register. -/
def State.shiftReg (s : State) (op : ShiftOp) (z : Size) (count : Nat) (d : RegSel) : State :=
  let r := shiftOf op z count (s.readSel z d) s.flags.c (s.freeBit 0)
  ((s.writeSel z d r.value).setFlags r.flags).drew 1

/-- A rotate or shift of memory, always one step (R370). -/
def State.shiftMem (s : State) (op : ShiftOp) (z : Size) (a : Addr) : State :=
  let r := shiftOf op z 1 (s.load z a) s.flags.c (s.freeBit 0)
  (((s.loaded z a).store z a r.value).setFlags r.flags).drew 1

/-- RLD or RRD: A and a byte of memory exchange digits (R380, R381). -/
def State.rotateDigits (s : State) (a : Addr) (newA newMem : BitVec 8) : State :=
  let t := (s.writeSel .byte selA newA).store .byte a newMem
  t.setFlags (digitFlags newA s.flags)

/-! ### Bits (43_logic_bit.md) -/

/-- ANDCF, ORCF, XORCF, LDCF on bit `i` of a value: C is undefined where the value has no such bit
(R296, R298 to R300). -/
def State.carryBit (s : State) (op : CarryOp) {n : Nat} (v : BitVec n) (i : Nat) : State :=
  (s.setCarry (if i < n then carryOf op s.flags.c (v.getLsbD i) else s.freeBit 0)).drew 1

/-- The flags of BIT and TSET: S and V undefined, Z the inverted bit, or undefined where the value has
no such bit (R305, R309, R312). Draws: S, V, Z. -/
def State.bitFlags (s : State) {n : Nat} (v : BitVec n) (i : Nat) : State :=
  (s.setFlags
    { s := s.freeBit 0
      z := if i < n then !(v.getLsbD i) else s.freeBit 2
      h := true
      v := s.freeBit 1
      n := false
      c := s.flags.c }).drew 3

/-- BS1F or BS1B: the bit number found to A, V cleared; A undefined and V set where no bit is 1
(R310, R311). -/
def State.searched (s : State) (found : Option Nat) : State :=
  let a := match found with
    | some i => BitVec.ofNat 8 i
    | none => s.freeValue 0 .byte
  ((s.writeSel .byte selA a).setFlags { s.flags with v := found.isNone }).drew 1

/-! ### Block transfer and search (41_block_transfer_search.md) -/

/-- BC <- BC - 1. -/
def State.countDown (s : State) : State := s.writeSel .word selBC (s.regBC - 1#16)

/-- BC = 0. -/
def State.countDone (s : State) : Bool := s.regBC == 0#16

/-- A pointer moved by the operand size, up or down. -/
def State.movePointer (s : State) (z : Size) (down : Bool) (p : LongReg) : State :=
  s.writeLong p (if down then s.readLong p - sizeWord z else s.readLong p + sizeWord z)

/-- One item of a block transfer from (src) to (dst): the datum, the two pointers, BC, and H, N
cleared with V as given (R201 to R204). -/
def State.moveItem (s : State) (z : Size) (down : Bool) (dst src : LongReg) : State :=
  let t := (s.loaded z (s.readLong src)).store z (s.readLong dst) (s.load z (s.readLong src))
  let t := (t.movePointer z down dst).movePointer z down src
  t.countDown

/-- One step of a block search: A or WA compared with (P), the pointer moved, then BC; C unchanged
(R205, R207). -/
def State.searchItem (s : State) (z : Size) (down : Bool) (p : LongReg) : State :=
  let a := s.readSel z selA
  let m := s.load z (s.readLong p)
  let d := a - m
  let t := ((s.loaded z (s.readLong p)).movePointer z down p).countDown
  t.setFlags
    { s := d.msb
      z := d == 0
      h := decide (a.toNat % 16 < m.toNat % 16)
      v := !t.countDone
      n := true
      c := s.flags.c }

/-- The instruction has more items to do: it goes on at its own address, which is 2 bytes back, in the
next step (R200, R202, R209; log entries 11 and 12). -/
def State.again (s : State) (i : Instr) : State := { s with pc := s.pc - 2#32, repeating := some i }

/-- H, N and V after a block transfer (R201 to R204). -/
def State.transferFlags (s : State) (v : Bool) : State :=
  s.setFlags { s.flags with h := false, v := v, n := false }

/-- One LDI or LDD (R201, R203). -/
def State.transferOne (s : State) (z : Size) (down : Bool) (dst src : LongReg) : State :=
  let t := s.moveItem z down dst src
  t.transferFlags (!t.countDone)

/-- One item of LDIR or LDDR, and whether it goes on (R202, R204). -/
def State.transferRepeat (s : State) (i : Instr) (z : Size) (down : Bool) (dst src : LongReg) : State :=
  let t := (s.moveItem z down dst src).transferFlags false
  if t.countDone then t else t.again i

/-- One item of CPIR or CPDR, and whether it goes on: until Z = 1 or BC = 0 (R206, R208). -/
def State.searchRepeat (s : State) (i : Instr) (z : Size) (down : Bool) (p : LongReg) : State :=
  let t := s.searchItem z down p
  if t.flags.z || t.countDone then t else t.again i

end Sys2Proof.Machine
end

