-- ==== Sys2Proof/Machine/Arith.lean ====
section
/-! DEFINITION. The meanings of arithmetic (42_arithmetic.md).
A meaning is given the state with the program counter already past the instruction (10_state.md R38). -/

namespace Sys2Proof.Machine

/-- NEG r (42_arithmetic.md R229). -/
def execNeg (z : Size) (r' : RegOp) (s : State) : Result :=
  let r := subOf z 0 (s.readReg z r') false (s.freeBit 0)
  .next (((s.writeReg z r' r.value).setFlags r.flags).drew 1)

/-- MUL rr,# (byte) (42_arithmetic.md R242). -/
def execMulrImmB (r : RegOp) (i : BitVec 8) (s : State) : Result :=
  .next (s.mulReg false .byte (operandSel .byte r) i)

/-- MUL rr,# (word) (42_arithmetic.md R242). -/
def execMulrImmW (r : RegOp) (i : BitVec 16) (s : State) : Result :=
  .next (s.mulReg false .word (operandSel .word r) i)

/-- MULS rr,# (byte) (42_arithmetic.md R243). -/
def execMulsrImmB (r : RegOp) (i : BitVec 8) (s : State) : Result :=
  .next (s.mulReg true .byte (operandSel .byte r) i)

/-- MULS rr,# (word) (42_arithmetic.md R243). -/
def execMulsrImmW (r : RegOp) (i : BitVec 16) (s : State) : Result :=
  .next (s.mulReg true .word (operandSel .word r) i)

/-- DIV rr,# (byte) (42_arithmetic.md R244). -/
def execDivrImmB (r : RegOp) (i : BitVec 8) (s : State) : Result :=
  .next (s.divReg false .byte (operandSel .byte r) i)

/-- DIV rr,# (word) (42_arithmetic.md R244). -/
def execDivrImmW (r : RegOp) (i : BitVec 16) (s : State) : Result :=
  .next (s.divReg false .word (operandSel .word r) i)

/-- DIVS rr,# (byte) (42_arithmetic.md R245). -/
def execDivsrImmB (r : RegOp) (i : BitVec 8) (s : State) : Result :=
  .next (s.divReg true .byte (operandSel .byte r) i)

/-- DIVS rr,# (word) (42_arithmetic.md R245). -/
def execDivsrImmW (r : RegOp) (i : BitVec 16) (s : State) : Result :=
  .next (s.divReg true .word (operandSel .word r) i)

/-- DAA r (42_arithmetic.md R232). -/
def execDaa (r : RegOp) (s : State) : Result :=
  let d := s.readReg .byte r
  match daaRow s.flags d with
  | some row =>
    .next (((s.writeReg .byte r (daaApply s.flags d row).value).setFlags
      (daaApply s.flags d row).flags).drew 6)
  | none =>
    .next (((s.writeReg .byte r (s.freeValue 0 .byte)).setFlags
      { s := s.freeBit 1, z := s.freeBit 2, h := s.freeBit 3, v := s.freeBit 4, n := s.flags.n,
        c := s.freeBit 5 }).drew 6)

/-- EXTZ r (42_arithmetic.md R230). -/
def execExtz (z : Size) (r : RegOp) (s : State) : Result :=
  .next (s.writeReg z r (((s.readReg z r).setWidth (z.bits / 2)).setWidth z.bits))

/-- EXTS r (42_arithmetic.md R231). -/
def execExts (z : Size) (r : RegOp) (s : State) : Result :=
  .next (s.writeReg z r (((s.readReg z r).setWidth (z.bits / 2)).signExtend z.bits))

/-- PAA r (42_arithmetic.md R233). -/
def execPaa (z : Size) (r : RegOp) (s : State) : Result :=
  .next (if (s.readReg z r).getLsbD 0 then s.writeReg z r (s.readReg z r + 1) else s)

/-- MULA rr (42_arithmetic.md R246). -/
def execMula (r : RegOp) (s : State) : Result :=
  let x := s.load .word (s.readLong longXDE)
  let t := s.loaded .word (s.readLong longXDE)
  let y := t.load .word (s.readLong longXHL)
  let sum := addOf .long (s.readReg .long r) (BitVec.ofInt 32 (x.toInt * y.toInt)) false false
  let t := (t.loaded .word (s.readLong longXHL)).writeReg .long r sum.value
  .next ((t.writeLong longXHL (t.readLong longXHL - 2#32)).setFlags
    { s.flags with s := sum.flags.s, z := sum.flags.z, v := sum.flags.v })

/-- MINC1 #,r (42_arithmetic.md R247). -/
def execMinc1 (i : BitVec 16) (r : RegOp) (s : State) : Result :=
  .next (s.moduloReg false 1 1 i r)

/-- MINC2 #,r (42_arithmetic.md R248). -/
def execMinc2 (i : BitVec 16) (r : RegOp) (s : State) : Result :=
  .next (s.moduloReg false 2 2 i r)

/-- MINC4 #,r (42_arithmetic.md R249). -/
def execMinc4 (i : BitVec 16) (r : RegOp) (s : State) : Result :=
  .next (s.moduloReg false 4 3 i r)

/-- MDEC1 #,r (42_arithmetic.md R250). -/
def execMdec1 (i : BitVec 16) (r : RegOp) (s : State) : Result :=
  .next (s.moduloReg true 1 1 i r)

/-- MDEC2 #,r (42_arithmetic.md R251). -/
def execMdec2 (i : BitVec 16) (r : RegOp) (s : State) : Result :=
  .next (s.moduloReg true 2 2 i r)

/-- MDEC4 #,r (42_arithmetic.md R252). -/
def execMdec4 (i : BitVec 16) (r : RegOp) (s : State) : Result :=
  .next (s.moduloReg true 4 3 i r)

/-- MUL RR,r (42_arithmetic.md R242). -/
def execMulRr (z : Size) (R : BitVec 3) (r : RegOp) (s : State) : Result :=
  .next (s.mulReg false z (shortSel z R) (s.readReg z r))

/-- MULS RR,r (42_arithmetic.md R243). -/
def execMulsRr (z : Size) (R : BitVec 3) (r : RegOp) (s : State) : Result :=
  .next (s.mulReg true z (shortSel z R) (s.readReg z r))

/-- DIV RR,r (42_arithmetic.md R244). -/
def execDivRr (z : Size) (R : BitVec 3) (r : RegOp) (s : State) : Result :=
  .next (s.divReg false z (shortSel z R) (s.readReg z r))

/-- DIVS RR,r (42_arithmetic.md R245). -/
def execDivsRr (z : Size) (R : BitVec 3) (r : RegOp) (s : State) : Result :=
  .next (s.divReg true z (shortSel z R) (s.readReg z r))

/-- INC #3,r (42_arithmetic.md R227). -/
def execIncNumr (z : Size) (n : BitVec 3) (r : RegOp) (s : State) : Result :=
  .next (s.incReg false z n (operandSel z r))

/-- DEC #3,r (42_arithmetic.md R228). -/
def execDecNumr (z : Size) (n : BitVec 3) (r : RegOp) (s : State) : Result :=
  .next (s.incReg true z n (operandSel z r))

/-- ADD R,r (42_arithmetic.md R222). -/
def execAddRr (z : Size) (R : BitVec 3) (r : RegOp) (s : State) : Result :=
  .next (s.aluReg .add z (shortSel z R) (s.readReg z r))

/-- ADC R,r (42_arithmetic.md R223). -/
def execAdcRr (z : Size) (R : BitVec 3) (r : RegOp) (s : State) : Result :=
  .next (s.aluReg .adc z (shortSel z R) (s.readReg z r))

/-- SUB R,r (42_arithmetic.md R224). -/
def execSubRr (z : Size) (R : BitVec 3) (r : RegOp) (s : State) : Result :=
  .next (s.aluReg .sub z (shortSel z R) (s.readReg z r))

/-- SBC R,r (42_arithmetic.md R225). -/
def execSbcRr (z : Size) (R : BitVec 3) (r : RegOp) (s : State) : Result :=
  .next (s.aluReg .sbc z (shortSel z R) (s.readReg z r))

/-- CP R,r (42_arithmetic.md R226). -/
def execCpRr (z : Size) (R : BitVec 3) (r : RegOp) (s : State) : Result :=
  .next (s.aluReg .cp z (shortSel z R) (s.readReg z r))

/-- ADD r,# (byte) (42_arithmetic.md R222). -/
def execAddrImmB (r : RegOp) (i : BitVec 8) (s : State) : Result :=
  .next (s.aluReg .add .byte (operandSel .byte r) i)

/-- ADD r,# (word) (42_arithmetic.md R222). -/
def execAddrImmW (r : RegOp) (i : BitVec 16) (s : State) : Result :=
  .next (s.aluReg .add .word (operandSel .word r) i)

/-- ADD r,# (long) (42_arithmetic.md R222). -/
def execAddrImmL (r : RegOp) (i : BitVec 32) (s : State) : Result :=
  .next (s.aluReg .add .long (operandSel .long r) i)

/-- ADC r,# (byte) (42_arithmetic.md R223). -/
def execAdcrImmB (r : RegOp) (i : BitVec 8) (s : State) : Result :=
  .next (s.aluReg .adc .byte (operandSel .byte r) i)

/-- ADC r,# (word) (42_arithmetic.md R223). -/
def execAdcrImmW (r : RegOp) (i : BitVec 16) (s : State) : Result :=
  .next (s.aluReg .adc .word (operandSel .word r) i)

/-- ADC r,# (long) (42_arithmetic.md R223). -/
def execAdcrImmL (r : RegOp) (i : BitVec 32) (s : State) : Result :=
  .next (s.aluReg .adc .long (operandSel .long r) i)

/-- SUB r,# (byte) (42_arithmetic.md R224). -/
def execSubrImmB (r : RegOp) (i : BitVec 8) (s : State) : Result :=
  .next (s.aluReg .sub .byte (operandSel .byte r) i)

/-- SUB r,# (word) (42_arithmetic.md R224). -/
def execSubrImmW (r : RegOp) (i : BitVec 16) (s : State) : Result :=
  .next (s.aluReg .sub .word (operandSel .word r) i)

/-- SUB r,# (long) (42_arithmetic.md R224). -/
def execSubrImmL (r : RegOp) (i : BitVec 32) (s : State) : Result :=
  .next (s.aluReg .sub .long (operandSel .long r) i)

/-- SBC r,# (byte) (42_arithmetic.md R225). -/
def execSbcrImmB (r : RegOp) (i : BitVec 8) (s : State) : Result :=
  .next (s.aluReg .sbc .byte (operandSel .byte r) i)

/-- SBC r,# (word) (42_arithmetic.md R225). -/
def execSbcrImmW (r : RegOp) (i : BitVec 16) (s : State) : Result :=
  .next (s.aluReg .sbc .word (operandSel .word r) i)

/-- SBC r,# (long) (42_arithmetic.md R225). -/
def execSbcrImmL (r : RegOp) (i : BitVec 32) (s : State) : Result :=
  .next (s.aluReg .sbc .long (operandSel .long r) i)

/-- CP r,# (byte) (42_arithmetic.md R226). -/
def execCprImmB (r : RegOp) (i : BitVec 8) (s : State) : Result :=
  .next (s.aluReg .cp .byte (operandSel .byte r) i)

/-- CP r,# (word) (42_arithmetic.md R226). -/
def execCprImmW (r : RegOp) (i : BitVec 16) (s : State) : Result :=
  .next (s.aluReg .cp .word (operandSel .word r) i)

/-- CP r,# (long) (42_arithmetic.md R226). -/
def execCprImmL (r : RegOp) (i : BitVec 32) (s : State) : Result :=
  .next (s.aluReg .cp .long (operandSel .long r) i)

/-- CP r,#3 (42_arithmetic.md R226). -/
def execCprNum3 (z : Size) (r : RegOp) (n : BitVec 3) (s : State) : Result :=
  .next (s.aluReg .cp z (operandSel z r) (n.setWidth z.bits))

/-- ADD<W> (mem),# (byte) (42_arithmetic.md R222). -/
def execAddMemImmB (m : MemOp) (i : BitVec 8) (s : State) : Result :=
  .next ((s.advance m).aluMem .add .byte (s.ea m) i)

/-- ADD<W> (mem),# (word) (42_arithmetic.md R222). -/
def execAddMemImmW (m : MemOp) (i : BitVec 16) (s : State) : Result :=
  .next ((s.advance m).aluMem .add .word (s.ea m) i)

/-- ADC<W> (mem),# (byte) (42_arithmetic.md R223). -/
def execAdcMemImmB (m : MemOp) (i : BitVec 8) (s : State) : Result :=
  .next ((s.advance m).aluMem .adc .byte (s.ea m) i)

/-- ADC<W> (mem),# (word) (42_arithmetic.md R223). -/
def execAdcMemImmW (m : MemOp) (i : BitVec 16) (s : State) : Result :=
  .next ((s.advance m).aluMem .adc .word (s.ea m) i)

/-- SUB<W> (mem),# (byte) (42_arithmetic.md R224). -/
def execSubMemImmB (m : MemOp) (i : BitVec 8) (s : State) : Result :=
  .next ((s.advance m).aluMem .sub .byte (s.ea m) i)

/-- SUB<W> (mem),# (word) (42_arithmetic.md R224). -/
def execSubMemImmW (m : MemOp) (i : BitVec 16) (s : State) : Result :=
  .next ((s.advance m).aluMem .sub .word (s.ea m) i)

/-- SBC<W> (mem),# (byte) (42_arithmetic.md R225). -/
def execSbcMemImmB (m : MemOp) (i : BitVec 8) (s : State) : Result :=
  .next ((s.advance m).aluMem .sbc .byte (s.ea m) i)

/-- SBC<W> (mem),# (word) (42_arithmetic.md R225). -/
def execSbcMemImmW (m : MemOp) (i : BitVec 16) (s : State) : Result :=
  .next ((s.advance m).aluMem .sbc .word (s.ea m) i)

/-- CP<W> (mem),# (byte) (42_arithmetic.md R226). -/
def execCpMemImmB (m : MemOp) (i : BitVec 8) (s : State) : Result :=
  .next ((s.advance m).aluMem .cp .byte (s.ea m) i)

/-- CP<W> (mem),# (word) (42_arithmetic.md R226). -/
def execCpMemImmW (m : MemOp) (i : BitVec 16) (s : State) : Result :=
  .next ((s.advance m).aluMem .cp .word (s.ea m) i)

/-- MUL RR,(mem) (42_arithmetic.md R242). -/
def execMulRMem (z : Size) (R : BitVec 3) (m : MemOp) (s : State) : Result :=
  .next ((s.afterRead z m).mulReg false z (shortSel z R) (s.load z (s.ea m)))

/-- MULS RR,(mem) (42_arithmetic.md R243). -/
def execMulsRMem (z : Size) (R : BitVec 3) (m : MemOp) (s : State) : Result :=
  .next ((s.afterRead z m).mulReg true z (shortSel z R) (s.load z (s.ea m)))

/-- DIV RR,(mem) (42_arithmetic.md R244). -/
def execDivRMem (z : Size) (R : BitVec 3) (m : MemOp) (s : State) : Result :=
  .next ((s.afterRead z m).divReg false z (shortSel z R) (s.load z (s.ea m)))

/-- DIVS RR,(mem) (42_arithmetic.md R245). -/
def execDivsRMem (z : Size) (R : BitVec 3) (m : MemOp) (s : State) : Result :=
  .next ((s.afterRead z m).divReg true z (shortSel z R) (s.load z (s.ea m)))

/-- INC<W> #3,(mem) (42_arithmetic.md R227). -/
def execIncNumMem (z : Size) (n : BitVec 3) (m : MemOp) (s : State) : Result :=
  .next ((s.advance m).incMem false z n (s.ea m))

/-- DEC<W> #3,(mem) (42_arithmetic.md R228). -/
def execDecNumMem (z : Size) (n : BitVec 3) (m : MemOp) (s : State) : Result :=
  .next ((s.advance m).incMem true z n (s.ea m))

/-- ADD R,(mem) (42_arithmetic.md R222). -/
def execAddRMem (z : Size) (R : BitVec 3) (m : MemOp) (s : State) : Result :=
  .next ((s.afterRead z m).aluReg .add z (shortSel z R) (s.load z (s.ea m)))

/-- ADD (mem),R (42_arithmetic.md R222). -/
def execAddMemR (z : Size) (m : MemOp) (R : BitVec 3) (s : State) : Result :=
  .next ((s.advance m).aluMem .add z (s.ea m) ((s.advance m).readShort z R))

/-- ADC R,(mem) (42_arithmetic.md R223). -/
def execAdcRMem (z : Size) (R : BitVec 3) (m : MemOp) (s : State) : Result :=
  .next ((s.afterRead z m).aluReg .adc z (shortSel z R) (s.load z (s.ea m)))

/-- ADC (mem),R (42_arithmetic.md R223). -/
def execAdcMemR (z : Size) (m : MemOp) (R : BitVec 3) (s : State) : Result :=
  .next ((s.advance m).aluMem .adc z (s.ea m) ((s.advance m).readShort z R))

/-- SUB R,(mem) (42_arithmetic.md R224). -/
def execSubRMem (z : Size) (R : BitVec 3) (m : MemOp) (s : State) : Result :=
  .next ((s.afterRead z m).aluReg .sub z (shortSel z R) (s.load z (s.ea m)))

/-- SUB (mem),R (42_arithmetic.md R224). -/
def execSubMemR (z : Size) (m : MemOp) (R : BitVec 3) (s : State) : Result :=
  .next ((s.advance m).aluMem .sub z (s.ea m) ((s.advance m).readShort z R))

/-- SBC R,(mem) (42_arithmetic.md R225). -/
def execSbcRMem (z : Size) (R : BitVec 3) (m : MemOp) (s : State) : Result :=
  .next ((s.afterRead z m).aluReg .sbc z (shortSel z R) (s.load z (s.ea m)))

/-- SBC (mem),R (42_arithmetic.md R225). -/
def execSbcMemR (z : Size) (m : MemOp) (R : BitVec 3) (s : State) : Result :=
  .next ((s.advance m).aluMem .sbc z (s.ea m) ((s.advance m).readShort z R))

/-- CP R,(mem) (42_arithmetic.md R226). -/
def execCpRMem (z : Size) (R : BitVec 3) (m : MemOp) (s : State) : Result :=
  .next ((s.afterRead z m).aluReg .cp z (shortSel z R) (s.load z (s.ea m)))

/-- CP (mem),R (42_arithmetic.md R226). -/
def execCpMemR (z : Size) (m : MemOp) (R : BitVec 3) (s : State) : Result :=
  .next ((s.advance m).aluMem .cp z (s.ea m) ((s.advance m).readShort z R))

end Sys2Proof.Machine
end

