-- ==== Sys2Proof/Machine/Block.lean ====
section
/-! DEFINITION. The meanings of block transfer and block search (41_block_transfer_search.md). LDIR, LDDR, CPIR and CPDR do one item per
step: see State.again.
A meaning is given the state with the program counter already past the instruction (10_state.md R38). -/

namespace Sys2Proof.Machine

/-- LDI<W> (XDE+),(XHL+) (41_block_transfer_search.md R201). -/
def execLdiDeHl (z : Size) (s : State) : Result :=
  .next (s.transferOne z false longXDE longXHL)

/-- LDI<W> (XIX+),(XIY+) (41_block_transfer_search.md R201). -/
def execLdiIxIy (z : Size) (s : State) : Result :=
  .next (s.transferOne z false longXIX longXIY)

/-- LDIR<W> (XDE+),(XHL+) (41_block_transfer_search.md R202). -/
def execLdirDeHl (z : Size) (s : State) : Result :=
  .next (s.transferRepeat (.ldirDeHl z) z false longXDE longXHL)

/-- LDIR<W> (XIX+),(XIY+) (41_block_transfer_search.md R202). -/
def execLdirIxIy (z : Size) (s : State) : Result :=
  .next (s.transferRepeat (.ldirIxIy z) z false longXIX longXIY)

/-- LDD<W> (XDE-),(XHL-) (41_block_transfer_search.md R203). -/
def execLddDeHl (z : Size) (s : State) : Result :=
  .next (s.transferOne z true longXDE longXHL)

/-- LDD<W> (XIX-),(XIY-) (41_block_transfer_search.md R203). -/
def execLddIxIy (z : Size) (s : State) : Result :=
  .next (s.transferOne z true longXIX longXIY)

/-- LDDR<W> (XDE-),(XHL-) (41_block_transfer_search.md R204). -/
def execLddrDeHl (z : Size) (s : State) : Result :=
  .next (s.transferRepeat (.lddrDeHl z) z true longXDE longXHL)

/-- LDDR<W> (XIX-),(XIY-) (41_block_transfer_search.md R204). -/
def execLddrIxIy (z : Size) (s : State) : Result :=
  .next (s.transferRepeat (.lddrIxIy z) z true longXIX longXIY)

/-- CPI [A/WA,(R+)] (41_block_transfer_search.md R205). -/
def execCpi (z : Size) (R : BitVec 3) (s : State) : Result :=
  .next (s.searchItem z false (shortLong R))

/-- CPIR [A/WA,(R+)] (41_block_transfer_search.md R206). -/
def execCpir (z : Size) (R : BitVec 3) (s : State) : Result :=
  .next (s.searchRepeat (.cpir z R) z false (shortLong R))

/-- CPD [A/WA,(R-)] (41_block_transfer_search.md R207). -/
def execCpd (z : Size) (R : BitVec 3) (s : State) : Result :=
  .next (s.searchItem z true (shortLong R))

/-- CPDR [A/WA,(R-)] (41_block_transfer_search.md R208). -/
def execCpdr (z : Size) (R : BitVec 3) (s : State) : Result :=
  .next (s.searchRepeat (.cpdr z R) z true (shortLong R))

end Sys2Proof.Machine
end

