-- ==== Sys2Proof/Machine/Control.lean ====
section
/-! DEFINITION. The meanings of special operations and CPU control (44_cpu_control.md).
A meaning is given the state with the program counter already past the instruction (10_state.md R38). -/

namespace Sys2Proof.Machine

/-- NOP (44_cpu_control.md R340). -/
def execNop (s : State) : Result :=
  .next (s)

/-- PUSH SR (44_cpu_control.md R343). -/
def execPushSr (s : State) : Result :=
  .next (s.push .word s.sr)

/-- POP SR (44_cpu_control.md R344). -/
def execPopSr (s : State) : Result :=
  .next ((s.dropTop .word).setSr (s.top .word))

/-- HALT (44_cpu_control.md R346). -/
def execHalt (s : State) : Result :=
  .next ({ s with halted := true })

/-- EI #3 (44_cpu_control.md R341). -/
def execEi (n : BitVec 3) (s : State) : Result :=
  .next ({ s with iff := n })

/-- DI (44_cpu_control.md R342). -/
def execDi (s : State) : Result :=
  .next ({ s with iff := 7#3 })

/-- INCF (44_cpu_control.md R352). -/
def execIncf (s : State) : Result :=
  .next ({ s with rfp := s.rfp + 1#2 })

/-- DECF (44_cpu_control.md R353). -/
def execDecf (s : State) : Result :=
  .next ({ s with rfp := s.rfp - 1#2 })

/-- LDF #2 (44_cpu_control.md R351). -/
def execLdf (n : BitVec 2) (s : State) : Result :=
  .next ({ s with rfp := n })

/-- SWI #3 (44_cpu_control.md R345). -/
def execSwi (n : BitVec 3) (s : State) : Result :=
  .next (s.takeException false ((n ++ 0#2).setWidth 32))

/-- LINK r,d16 (44_cpu_control.md R349). -/
def execLink (r : RegOp) (d : BitVec 16) (s : State) : Result :=
  let t := s.push .long (s.readReg .long r)
  let t := t.writeReg .long r t.xsp
  .next (t.setXsp (t.xsp + d.signExtend 32))

/-- UNLK r (44_cpu_control.md R350). -/
def execUnlk (r : RegOp) (s : State) : Result :=
  let t := s.setXsp (s.readReg .long r)
  .next ((t.dropTop .long).writeReg .long r (t.top .long))

/-- LDC cr,r (44_cpu_control.md R347). -/
def execLdcCrr (z : Size) (k : ControlReg) (r : RegOp) (s : State) : Result :=
  if k.size = z then .next (s.writeControl k ((s.readReg z r).setWidth k.size.bits))
  else .fault .undefinedControlRegister

/-- LDC r,cr (44_cpu_control.md R348). -/
def execLdcrCr (z : Size) (r : RegOp) (k : ControlReg) (s : State) : Result :=
  if k.size = z then .next (s.writeReg z r ((s.readControl k).setWidth z.bits))
  else .fault .undefinedControlRegister

/-- SCC cc,r (44_cpu_control.md R354). -/
def execScc (z : Size) (cc : Cond) (r : RegOp) (s : State) : Result :=
  .next (s.writeReg z r (if condHolds cc s.flags then 1 else 0))

end Sys2Proof.Machine
end

