-- ==== Sys2Proof/Machine/Jump.lean ====
section
/-! DEFINITION. The meanings of jumps, calls and returns (46_jump_call_return.md).
A meaning is given the state with the program counter already past the instruction (10_state.md R38). -/

namespace Sys2Proof.Machine

/-- RETI (46_jump_call_return.md R398). -/
def execReti (s : State) : Result :=
  .next (s.returnFromException)

/-- RET (46_jump_call_return.md R396). -/
def execRet (s : State) : Result :=
  .next ((s.dropTop .long).jump (s.top .long))

/-- RETD d16 (46_jump_call_return.md R397). -/
def execRetd (d : BitVec 16) (s : State) : Result :=
  let t := (s.dropTop .long).jump (s.top .long)
  .next (t.setXsp (t.xsp + d.signExtend 32))

/-- JP #16 (46_jump_call_return.md R390). -/
def execJpAbs16 (a : BitVec 16) (s : State) : Result :=
  .next (s.jump (a.setWidth 32))

/-- JP #24 (46_jump_call_return.md R390). -/
def execJpAbs24 (a : BitVec 24) (s : State) : Result :=
  .next (s.jump (a.setWidth 32))

/-- CALL #16 (46_jump_call_return.md R393). -/
def execCallAbs16 (a : BitVec 16) (s : State) : Result :=
  .next ((s.push .long s.pc).jump (a.setWidth 32))

/-- CALL #24 (46_jump_call_return.md R393). -/
def execCallAbs24 (a : BitVec 24) (s : State) : Result :=
  .next ((s.push .long s.pc).jump (a.setWidth 32))

/-- CALR $+3+d16 (46_jump_call_return.md R394). -/
def execCalr (d : BitVec 16) (s : State) : Result :=
  .next ((s.push .long s.pc).jump (s.pc + d.signExtend 32))

/-- JR [cc,]$+2+d8 (46_jump_call_return.md R391). -/
def execJr (cc : Cond) (d : BitVec 8) (s : State) : Result :=
  .next (if condHolds cc s.flags then s.jump (s.pc + d.signExtend 32) else s)

/-- JRL [cc,]$+3+d16 (46_jump_call_return.md R392). -/
def execJrl (cc : Cond) (d : BitVec 16) (s : State) : Result :=
  .next (if condHolds cc s.flags then s.jump (s.pc + d.signExtend 32) else s)

/-- DJNZ [r,]$+3+d8 (46_jump_call_return.md R395). -/
def execDjnz (z : Size) (r : RegOp) (d : BitVec 8) (s : State) : Result :=
  let v := s.readReg z r - 1
  let t := s.writeReg z r v
  .next (if v = 0 then t else t.jump (s.pc + d.signExtend 32))

/-- JP [cc,]mem (46_jump_call_return.md R390). -/
def execJpMem (cc : Cond) (m : MemOp) (s : State) : Result :=
  .next (if condHolds cc s.flags then (s.advance m).jump (s.ea m) else s.advance m)

/-- CALL [cc,]mem (46_jump_call_return.md R393). -/
def execCallMem (cc : Cond) (m : MemOp) (s : State) : Result :=
  .next (if condHolds cc s.flags then ((s.advance m).push .long s.pc).jump (s.ea m) else s.advance m)

/-- RET cc (46_jump_call_return.md R396). -/
def execRetCc (cc : Cond) (s : State) : Result :=
  .next (if condHolds cc s.flags then (s.dropTop .long).jump (s.top .long) else s)

end Sys2Proof.Machine
end

