-- ==== Sys2Proof/Machine/LoadExchange.lean ====
section
/-! DEFINITION. The meanings of load, stack, address and exchange instructions (40_load_exchange.md).
A meaning is given the state with the program counter already past the instruction (10_state.md R38). -/

namespace Sys2Proof.Machine

/-- LD (#8),# (40_load_exchange.md R167). -/
def execLdAbs8Imm (a : BitVec 8) (i : BitVec 8) (s : State) : Result :=
  .next (s.store .byte (a.setWidth 32) i)

/-- PUSH # (40_load_exchange.md R175). -/
def execPushImm (i : BitVec 8) (s : State) : Result :=
  .next (s.push .byte i)

/-- LDW (#8),# (40_load_exchange.md R167). -/
def execLdwAbs8Imm (a : BitVec 8) (i : BitVec 16) (s : State) : Result :=
  .next (s.store .word (a.setWidth 32) i)

/-- PUSHW # (40_load_exchange.md R175). -/
def execPushwImm (i : BitVec 16) (s : State) : Result :=
  .next (s.push .word i)

/-- PUSH A (40_load_exchange.md R172). -/
def execPushA (s : State) : Result :=
  .next (s.push .byte s.regA)

/-- POP A (40_load_exchange.md R178). -/
def execPopA (s : State) : Result :=
  .next ((s.dropTop .byte).writeSel .byte selA (s.top .byte))

/-- EX F,F' (40_load_exchange.md R184). -/
def execExFF (s : State) : Result :=
  .next ({ s with flags := s.altFlags, altFlags := s.flags })

/-- PUSH F (40_load_exchange.md R171). -/
def execPushF (s : State) : Result :=
  .next (s.push .byte s.flags.toByte)

/-- POP F (40_load_exchange.md R177). -/
def execPopF (s : State) : Result :=
  .next ((s.dropTop .byte).setFlags (Flags.ofByte (s.top .byte)))

/-- LD R,# (byte) (40_load_exchange.md R163). -/
def execLdRImmB (R : BitVec 3) (i : BitVec 8) (s : State) : Result :=
  .next (s.writeShort .byte R i)

/-- PUSH R (word) (40_load_exchange.md R173). -/
def execPushRW (R : BitVec 3) (s : State) : Result :=
  .next (s.push .word (s.readShort .word R))

/-- LD R,# (word) (40_load_exchange.md R163). -/
def execLdRImmW (R : BitVec 3) (i : BitVec 16) (s : State) : Result :=
  .next (s.writeShort .word R i)

/-- PUSH R (long) (40_load_exchange.md R173). -/
def execPushRL (R : BitVec 3) (s : State) : Result :=
  .next (s.push .long (s.readShort .long R))

/-- LD R,# (long) (40_load_exchange.md R163). -/
def execLdRImmL (R : BitVec 3) (i : BitVec 32) (s : State) : Result :=
  .next (s.writeShort .long R i)

/-- POP R (word) (40_load_exchange.md R179). -/
def execPopRW (R : BitVec 3) (s : State) : Result :=
  .next ((s.dropTop .word).writeShort .word R (s.top .word))

/-- POP R (long) (40_load_exchange.md R179). -/
def execPopRL (R : BitVec 3) (s : State) : Result :=
  .next ((s.dropTop .long).writeShort .long R (s.top .long))

/-- LD r,# (byte) (40_load_exchange.md R164). -/
def execLdrImmB (r : RegOp) (i : BitVec 8) (s : State) : Result :=
  .next (s.writeReg .byte r i)

/-- LD r,# (word) (40_load_exchange.md R164). -/
def execLdrImmW (r : RegOp) (i : BitVec 16) (s : State) : Result :=
  .next (s.writeReg .word r i)

/-- LD r,# (long) (40_load_exchange.md R164). -/
def execLdrImmL (r : RegOp) (i : BitVec 32) (s : State) : Result :=
  .next (s.writeReg .long r i)

/-- PUSH r (40_load_exchange.md R174). -/
def execPushr (z : Size) (r : RegOp) (s : State) : Result :=
  .next (s.push z (s.readReg z r))

/-- POP r (40_load_exchange.md R180). -/
def execPopr (z : Size) (r : RegOp) (s : State) : Result :=
  .next ((s.dropTop z).writeReg z r (s.top z))

/-- MIRR r (40_load_exchange.md R187). -/
def execMirr (r : RegOp) (s : State) : Result :=
  .next (s.writeReg .word r (s.readReg .word r).reverse)

/-- LD R,r (40_load_exchange.md R160). -/
def execLdRr (z : Size) (R : BitVec 3) (r : RegOp) (s : State) : Result :=
  .next (s.writeShort z R (s.readReg z r))

/-- LD r,R (40_load_exchange.md R161). -/
def execLdrR (z : Size) (r : RegOp) (R : BitVec 3) (s : State) : Result :=
  .next (s.writeReg z r (s.readShort z R))

/-- LD r,#3 (40_load_exchange.md R162). -/
def execLdrNum3 (z : Size) (r : RegOp) (n : BitVec 3) (s : State) : Result :=
  .next (s.writeReg z r (n.setWidth z.bits))

/-- EX R,r (40_load_exchange.md R185). -/
def execExRr (z : Size) (R : BitVec 3) (r : RegOp) (s : State) : Result :=
  .next ((s.writeShort z R (s.readReg z r)).writeReg z r (s.readShort z R))

/-- PUSH<W> (mem) (40_load_exchange.md R176). -/
def execPushMem (z : Size) (m : MemOp) (s : State) : Result :=
  .next ((s.afterRead z m).push z (s.load z (s.ea m)))

/-- LD<W> (#16),(mem) (40_load_exchange.md R169). -/
def execLdAbs16Mem (z : Size) (a : BitVec 16) (m : MemOp) (s : State) : Result :=
  .next ((s.afterRead z m).store z (a.setWidth 32) (s.load z (s.ea m)))

/-- LD R,(mem) (40_load_exchange.md R165). -/
def execLdRMem (z : Size) (R : BitVec 3) (m : MemOp) (s : State) : Result :=
  .next ((s.afterRead z m).writeShort z R (s.load z (s.ea m)))

/-- EX (mem),R (40_load_exchange.md R186). -/
def execExMemR (z : Size) (m : MemOp) (R : BitVec 3) (s : State) : Result :=
  .next (((s.afterRead z m).store z (s.ea m) ((s.afterRead z m).readShort z R)).writeShort z R
    (s.load z (s.ea m)))

/-- LD (mem),# (40_load_exchange.md R168). -/
def execLdMemImm (m : MemOp) (i : BitVec 8) (s : State) : Result :=
  .next ((s.advance m).store .byte (s.ea m) i)

/-- LDW (mem),# (40_load_exchange.md R168). -/
def execLdwMemImm (m : MemOp) (i : BitVec 16) (s : State) : Result :=
  .next ((s.advance m).store .word (s.ea m) i)

/-- POP (mem) (40_load_exchange.md R181). -/
def execPopMem (m : MemOp) (s : State) : Result :=
  .next (((s.advance m).dropTop .byte).store .byte (s.ea m) ((s.advance m).top .byte))

/-- POPW (mem) (40_load_exchange.md R181). -/
def execPopwMem (m : MemOp) (s : State) : Result :=
  .next (((s.advance m).dropTop .word).store .word (s.ea m) ((s.advance m).top .word))

/-- LD (mem),(#16) (40_load_exchange.md R170). -/
def execLdMemAbs16 (m : MemOp) (a : BitVec 16) (s : State) : Result :=
  .next (((s.advance m).loaded .byte (a.setWidth 32)).store .byte (s.ea m) (s.load .byte (a.setWidth 32)))

/-- LDW (mem),(#16) (40_load_exchange.md R170). -/
def execLdwMemAbs16 (m : MemOp) (a : BitVec 16) (s : State) : Result :=
  .next (((s.advance m).loaded .word (a.setWidth 32)).store .word (s.ea m) (s.load .word (a.setWidth 32)))

/-- LDA R,mem (word) (40_load_exchange.md R182). -/
def execLdaW (R : BitVec 3) (m : MemOp) (s : State) : Result :=
  .next ((s.advance m).writeShort .word R ((s.ea m).setWidth 16))

/-- LDA R,mem (long) (40_load_exchange.md R182). -/
def execLdaL (R : BitVec 3) (m : MemOp) (s : State) : Result :=
  .next ((s.advance m).writeShort .long R (s.ea m))

/-- LDAR R,$+4+d16 (word) (40_load_exchange.md R183). -/
def execLdarW (R : BitVec 3) (d : BitVec 16) (s : State) : Result :=
  .next (s.writeShort .word R ((s.pc - 1#32 + d.signExtend 32).setWidth 16))

/-- LDAR R,$+4+d16 (long) (40_load_exchange.md R183). -/
def execLdarL (R : BitVec 3) (d : BitVec 16) (s : State) : Result :=
  .next (s.writeShort .long R (s.pc - 1#32 + d.signExtend 32))

/-- LD (mem),R (byte) (40_load_exchange.md R166). -/
def execLdMemRB (m : MemOp) (R : BitVec 3) (s : State) : Result :=
  .next ((s.advance m).store .byte (s.ea m) ((s.advance m).readShort .byte R))

/-- LD (mem),R (word) (40_load_exchange.md R166). -/
def execLdMemRW (m : MemOp) (R : BitVec 3) (s : State) : Result :=
  .next ((s.advance m).store .word (s.ea m) ((s.advance m).readShort .word R))

/-- LD (mem),R (long) (40_load_exchange.md R166). -/
def execLdMemRL (m : MemOp) (R : BitVec 3) (s : State) : Result :=
  .next ((s.advance m).store .long (s.ea m) ((s.advance m).readShort .long R))

end Sys2Proof.Machine
end

