-- ==== Sys2Proof/Machine/Logic.lean ====
section
/-! DEFINITION. The meanings of logic and bits (43_logic_bit.md).
A meaning is given the state with the program counter already past the instruction (10_state.md R38). -/

namespace Sys2Proof.Machine

/-- RCF (43_logic_bit.md R301). -/
def execRcf (s : State) : Result :=
  .next (s.setFlags { s.flags with c := false, h := false, n := false })

/-- SCF (43_logic_bit.md R302). -/
def execScf (s : State) : Result :=
  .next (s.setFlags { s.flags with c := true, h := false, n := false })

/-- CCF (43_logic_bit.md R303). -/
def execCcf (s : State) : Result :=
  .next ((s.setFlags { s.flags with c := !s.flags.c, h := s.freeBit 0, n := false }).drew 1)

/-- ZCF (43_logic_bit.md R304). -/
def execZcf (s : State) : Result :=
  .next ((s.setFlags { s.flags with c := !s.flags.z, h := s.freeBit 0, n := false }).drew 1)

/-- CPL r (43_logic_bit.md R294). -/
def execCpl (z : Size) (r : RegOp) (s : State) : Result :=
  .next ((s.writeReg z r (~~~(s.readReg z r))).setFlags { s.flags with h := true, n := true })

/-- BS1F A,r (43_logic_bit.md R310). -/
def execBs1f (r : RegOp) (s : State) : Result :=
  .next (s.searched (lowestOne (s.readReg .word r)))

/-- BS1B A,r (43_logic_bit.md R311). -/
def execBs1b (r : RegOp) (s : State) : Result :=
  .next (s.searched (highestOne (s.readReg .word r)))

/-- ANDCF #4,r (43_logic_bit.md R298). -/
def execAndcfNumr (z : Size) (n : BitVec 4) (r : RegOp) (s : State) : Result :=
  .next (s.carryBit .and (s.readReg z r) n.toNat)

/-- ANDCF A,r (43_logic_bit.md R298). -/
def execAndcfAr (z : Size) (r : RegOp) (s : State) : Result :=
  .next (s.carryBit .and (s.readReg z r) s.lowA.toNat)

/-- ORCF #4,r (43_logic_bit.md R299). -/
def execOrcfNumr (z : Size) (n : BitVec 4) (r : RegOp) (s : State) : Result :=
  .next (s.carryBit .or (s.readReg z r) n.toNat)

/-- ORCF A,r (43_logic_bit.md R299). -/
def execOrcfAr (z : Size) (r : RegOp) (s : State) : Result :=
  .next (s.carryBit .or (s.readReg z r) s.lowA.toNat)

/-- XORCF #4,r (43_logic_bit.md R300). -/
def execXorcfNumr (z : Size) (n : BitVec 4) (r : RegOp) (s : State) : Result :=
  .next (s.carryBit .xor (s.readReg z r) n.toNat)

/-- XORCF A,r (43_logic_bit.md R300). -/
def execXorcfAr (z : Size) (r : RegOp) (s : State) : Result :=
  .next (s.carryBit .xor (s.readReg z r) s.lowA.toNat)

/-- LDCF #4,r (43_logic_bit.md R296). -/
def execLdcfNumr (z : Size) (n : BitVec 4) (r : RegOp) (s : State) : Result :=
  .next (s.carryBit .load (s.readReg z r) n.toNat)

/-- LDCF A,r (43_logic_bit.md R296). -/
def execLdcfAr (z : Size) (r : RegOp) (s : State) : Result :=
  .next (s.carryBit .load (s.readReg z r) s.lowA.toNat)

/-- STCF #4,r (43_logic_bit.md R297). -/
def execStcfNumr (z : Size) (n : BitVec 4) (r : RegOp) (s : State) : Result :=
  .next (s.writeReg z r (putBit (s.readReg z r) n.toNat s.flags.c))

/-- STCF A,r (43_logic_bit.md R297). -/
def execStcfAr (z : Size) (r : RegOp) (s : State) : Result :=
  .next (s.writeReg z r (putBit (s.readReg z r) s.lowA.toNat s.flags.c))

/-- RES #4,r (43_logic_bit.md R306). -/
def execResNumr (z : Size) (n : BitVec 4) (r : RegOp) (s : State) : Result :=
  .next (s.writeReg z r (modifyBit .res (s.readReg z r) n.toNat))

/-- SET #4,r (43_logic_bit.md R307). -/
def execSetNumr (z : Size) (n : BitVec 4) (r : RegOp) (s : State) : Result :=
  .next (s.writeReg z r (modifyBit .set (s.readReg z r) n.toNat))

/-- CHG #4,r (43_logic_bit.md R308). -/
def execChgNumr (z : Size) (n : BitVec 4) (r : RegOp) (s : State) : Result :=
  .next (s.writeReg z r (modifyBit .chg (s.readReg z r) n.toNat))

/-- BIT #4,r (43_logic_bit.md R305). -/
def execBitNumr (z : Size) (n : BitVec 4) (r : RegOp) (s : State) : Result :=
  .next (s.bitFlags (s.readReg z r) n.toNat)

/-- TSET #4,r (43_logic_bit.md R309). -/
def execTsetNumr (z : Size) (n : BitVec 4) (r : RegOp) (s : State) : Result :=
  .next ((s.bitFlags (s.readReg z r) n.toNat).writeReg z r (putBit (s.readReg z r) n.toNat true))

/-- AND R,r (43_logic_bit.md R291). -/
def execAndRr (z : Size) (R : BitVec 3) (r : RegOp) (s : State) : Result :=
  .next (s.aluReg .and z (shortSel z R) (s.readReg z r))

/-- XOR R,r (43_logic_bit.md R293). -/
def execXorRr (z : Size) (R : BitVec 3) (r : RegOp) (s : State) : Result :=
  .next (s.aluReg .xor z (shortSel z R) (s.readReg z r))

/-- OR R,r (43_logic_bit.md R292). -/
def execOrRr (z : Size) (R : BitVec 3) (r : RegOp) (s : State) : Result :=
  .next (s.aluReg .or z (shortSel z R) (s.readReg z r))

/-- AND r,# (byte) (43_logic_bit.md R291). -/
def execAndrImmB (r : RegOp) (i : BitVec 8) (s : State) : Result :=
  .next (s.aluReg .and .byte (operandSel .byte r) i)

/-- AND r,# (word) (43_logic_bit.md R291). -/
def execAndrImmW (r : RegOp) (i : BitVec 16) (s : State) : Result :=
  .next (s.aluReg .and .word (operandSel .word r) i)

/-- AND r,# (long) (43_logic_bit.md R291). -/
def execAndrImmL (r : RegOp) (i : BitVec 32) (s : State) : Result :=
  .next (s.aluReg .and .long (operandSel .long r) i)

/-- XOR r,# (byte) (43_logic_bit.md R293). -/
def execXorrImmB (r : RegOp) (i : BitVec 8) (s : State) : Result :=
  .next (s.aluReg .xor .byte (operandSel .byte r) i)

/-- XOR r,# (word) (43_logic_bit.md R293). -/
def execXorrImmW (r : RegOp) (i : BitVec 16) (s : State) : Result :=
  .next (s.aluReg .xor .word (operandSel .word r) i)

/-- XOR r,# (long) (43_logic_bit.md R293). -/
def execXorrImmL (r : RegOp) (i : BitVec 32) (s : State) : Result :=
  .next (s.aluReg .xor .long (operandSel .long r) i)

/-- OR r,# (byte) (43_logic_bit.md R292). -/
def execOrrImmB (r : RegOp) (i : BitVec 8) (s : State) : Result :=
  .next (s.aluReg .or .byte (operandSel .byte r) i)

/-- OR r,# (word) (43_logic_bit.md R292). -/
def execOrrImmW (r : RegOp) (i : BitVec 16) (s : State) : Result :=
  .next (s.aluReg .or .word (operandSel .word r) i)

/-- OR r,# (long) (43_logic_bit.md R292). -/
def execOrrImmL (r : RegOp) (i : BitVec 32) (s : State) : Result :=
  .next (s.aluReg .or .long (operandSel .long r) i)

/-- AND<W> (mem),# (byte) (43_logic_bit.md R291). -/
def execAndMemImmB (m : MemOp) (i : BitVec 8) (s : State) : Result :=
  .next ((s.advance m).aluMem .and .byte (s.ea m) i)

/-- AND<W> (mem),# (word) (43_logic_bit.md R291). -/
def execAndMemImmW (m : MemOp) (i : BitVec 16) (s : State) : Result :=
  .next ((s.advance m).aluMem .and .word (s.ea m) i)

/-- XOR<W> (mem),# (byte) (43_logic_bit.md R293). -/
def execXorMemImmB (m : MemOp) (i : BitVec 8) (s : State) : Result :=
  .next ((s.advance m).aluMem .xor .byte (s.ea m) i)

/-- XOR<W> (mem),# (word) (43_logic_bit.md R293). -/
def execXorMemImmW (m : MemOp) (i : BitVec 16) (s : State) : Result :=
  .next ((s.advance m).aluMem .xor .word (s.ea m) i)

/-- OR<W> (mem),# (byte) (43_logic_bit.md R292). -/
def execOrMemImmB (m : MemOp) (i : BitVec 8) (s : State) : Result :=
  .next ((s.advance m).aluMem .or .byte (s.ea m) i)

/-- OR<W> (mem),# (word) (43_logic_bit.md R292). -/
def execOrMemImmW (m : MemOp) (i : BitVec 16) (s : State) : Result :=
  .next ((s.advance m).aluMem .or .word (s.ea m) i)

/-- AND R,(mem) (43_logic_bit.md R291). -/
def execAndRMem (z : Size) (R : BitVec 3) (m : MemOp) (s : State) : Result :=
  .next ((s.afterRead z m).aluReg .and z (shortSel z R) (s.load z (s.ea m)))

/-- AND (mem),R (43_logic_bit.md R291). -/
def execAndMemR (z : Size) (m : MemOp) (R : BitVec 3) (s : State) : Result :=
  .next ((s.advance m).aluMem .and z (s.ea m) ((s.advance m).readShort z R))

/-- XOR R,(mem) (43_logic_bit.md R293). -/
def execXorRMem (z : Size) (R : BitVec 3) (m : MemOp) (s : State) : Result :=
  .next ((s.afterRead z m).aluReg .xor z (shortSel z R) (s.load z (s.ea m)))

/-- XOR (mem),R (43_logic_bit.md R293). -/
def execXorMemR (z : Size) (m : MemOp) (R : BitVec 3) (s : State) : Result :=
  .next ((s.advance m).aluMem .xor z (s.ea m) ((s.advance m).readShort z R))

/-- OR R,(mem) (43_logic_bit.md R292). -/
def execOrRMem (z : Size) (R : BitVec 3) (m : MemOp) (s : State) : Result :=
  .next ((s.afterRead z m).aluReg .or z (shortSel z R) (s.load z (s.ea m)))

/-- OR (mem),R (43_logic_bit.md R292). -/
def execOrMemR (z : Size) (m : MemOp) (R : BitVec 3) (s : State) : Result :=
  .next ((s.advance m).aluMem .or z (s.ea m) ((s.advance m).readShort z R))

/-- ANDCF A,(mem) (43_logic_bit.md R298). -/
def execAndcfAMem (m : MemOp) (s : State) : Result :=
  .next ((s.afterRead .byte m).carryBit .and (s.load .byte (s.ea m)) (s.afterRead .byte m).lowA.toNat)

/-- ORCF A,(mem) (43_logic_bit.md R299). -/
def execOrcfAMem (m : MemOp) (s : State) : Result :=
  .next ((s.afterRead .byte m).carryBit .or (s.load .byte (s.ea m)) (s.afterRead .byte m).lowA.toNat)

/-- XORCF A,(mem) (43_logic_bit.md R300). -/
def execXorcfAMem (m : MemOp) (s : State) : Result :=
  .next ((s.afterRead .byte m).carryBit .xor (s.load .byte (s.ea m)) (s.afterRead .byte m).lowA.toNat)

/-- LDCF A,(mem) (43_logic_bit.md R296). -/
def execLdcfAMem (m : MemOp) (s : State) : Result :=
  .next ((s.afterRead .byte m).carryBit .load (s.load .byte (s.ea m)) (s.afterRead .byte m).lowA.toNat)

/-- STCF A,(mem) (43_logic_bit.md R297). -/
def execStcfAMem (m : MemOp) (s : State) : Result :=
  .next ((s.afterRead .byte m).store .byte (s.ea m)
    (putBit (s.load .byte (s.ea m)) (s.afterRead .byte m).lowA.toNat s.flags.c))

/-- ANDCF #3,(mem) (43_logic_bit.md R298). -/
def execAndcfNumMem (n : BitVec 3) (m : MemOp) (s : State) : Result :=
  .next ((s.afterRead .byte m).carryBit .and (s.load .byte (s.ea m)) n.toNat)

/-- ORCF #3,(mem) (43_logic_bit.md R299). -/
def execOrcfNumMem (n : BitVec 3) (m : MemOp) (s : State) : Result :=
  .next ((s.afterRead .byte m).carryBit .or (s.load .byte (s.ea m)) n.toNat)

/-- XORCF #3,(mem) (43_logic_bit.md R300). -/
def execXorcfNumMem (n : BitVec 3) (m : MemOp) (s : State) : Result :=
  .next ((s.afterRead .byte m).carryBit .xor (s.load .byte (s.ea m)) n.toNat)

/-- LDCF #3,(mem) (43_logic_bit.md R296). -/
def execLdcfNumMem (n : BitVec 3) (m : MemOp) (s : State) : Result :=
  .next ((s.afterRead .byte m).carryBit .load (s.load .byte (s.ea m)) n.toNat)

/-- STCF #3,(mem) (43_logic_bit.md R297). -/
def execStcfNumMem (n : BitVec 3) (m : MemOp) (s : State) : Result :=
  .next ((s.afterRead .byte m).store .byte (s.ea m)
    (putBit (s.load .byte (s.ea m)) n.toNat s.flags.c))

/-- TSET #3,(mem) (43_logic_bit.md R309). -/
def execTsetNumMem (n : BitVec 3) (m : MemOp) (s : State) : Result :=
  .next (((s.afterRead .byte m).bitFlags (s.load .byte (s.ea m)) n.toNat).store .byte (s.ea m)
    (putBit (s.load .byte (s.ea m)) n.toNat true))

/-- RES #3,(mem) (43_logic_bit.md R306). -/
def execResNumMem (n : BitVec 3) (m : MemOp) (s : State) : Result :=
  .next ((s.afterRead .byte m).store .byte (s.ea m)
    (modifyBit .res (s.load .byte (s.ea m)) n.toNat))

/-- SET #3,(mem) (43_logic_bit.md R307). -/
def execSetNumMem (n : BitVec 3) (m : MemOp) (s : State) : Result :=
  .next ((s.afterRead .byte m).store .byte (s.ea m)
    (modifyBit .set (s.load .byte (s.ea m)) n.toNat))

/-- CHG #3,(mem) (43_logic_bit.md R308). -/
def execChgNumMem (n : BitVec 3) (m : MemOp) (s : State) : Result :=
  .next ((s.afterRead .byte m).store .byte (s.ea m)
    (modifyBit .chg (s.load .byte (s.ea m)) n.toNat))

/-- BIT #3,(mem) (43_logic_bit.md R305). -/
def execBitNumMem (n : BitVec 3) (m : MemOp) (s : State) : Result :=
  .next ((s.afterRead .byte m).bitFlags (s.load .byte (s.ea m)) n.toNat)

end Sys2Proof.Machine
end

