-- ==== Sys2Proof/Machine/Shift.lean ====
section
/-! DEFINITION. The meanings of rotates and shifts (45_rotate_shift.md).
A meaning is given the state with the program counter already past the instruction (10_state.md R38). -/

namespace Sys2Proof.Machine

/-- RLC #4,r (45_rotate_shift.md R372). -/
def execRlcNumr (z : Size) (n : BitVec 4) (r : RegOp) (s : State) : Result :=
  .next (s.shiftReg .rlc z (shiftCount n) (operandSel z r))

/-- RRC #4,r (45_rotate_shift.md R373). -/
def execRrcNumr (z : Size) (n : BitVec 4) (r : RegOp) (s : State) : Result :=
  .next (s.shiftReg .rrc z (shiftCount n) (operandSel z r))

/-- RL #4,r (45_rotate_shift.md R374). -/
def execRlNumr (z : Size) (n : BitVec 4) (r : RegOp) (s : State) : Result :=
  .next (s.shiftReg .rl z (shiftCount n) (operandSel z r))

/-- RR #4,r (45_rotate_shift.md R375). -/
def execRrNumr (z : Size) (n : BitVec 4) (r : RegOp) (s : State) : Result :=
  .next (s.shiftReg .rr z (shiftCount n) (operandSel z r))

/-- SLA #4,r (45_rotate_shift.md R376). -/
def execSlaNumr (z : Size) (n : BitVec 4) (r : RegOp) (s : State) : Result :=
  .next (s.shiftReg .sla z (shiftCount n) (operandSel z r))

/-- SRA #4,r (45_rotate_shift.md R377). -/
def execSraNumr (z : Size) (n : BitVec 4) (r : RegOp) (s : State) : Result :=
  .next (s.shiftReg .sra z (shiftCount n) (operandSel z r))

/-- SLL #4,r (45_rotate_shift.md R378). -/
def execSllNumr (z : Size) (n : BitVec 4) (r : RegOp) (s : State) : Result :=
  .next (s.shiftReg .sll z (shiftCount n) (operandSel z r))

/-- SRL #4,r (45_rotate_shift.md R379). -/
def execSrlNumr (z : Size) (n : BitVec 4) (r : RegOp) (s : State) : Result :=
  .next (s.shiftReg .srl z (shiftCount n) (operandSel z r))

/-- RLC A,r (45_rotate_shift.md R372). -/
def execRlcAr (z : Size) (r : RegOp) (s : State) : Result :=
  .next (s.shiftReg .rlc z (shiftCount s.lowA) (operandSel z r))

/-- RRC A,r (45_rotate_shift.md R373). -/
def execRrcAr (z : Size) (r : RegOp) (s : State) : Result :=
  .next (s.shiftReg .rrc z (shiftCount s.lowA) (operandSel z r))

/-- RL A,r (45_rotate_shift.md R374). -/
def execRlAr (z : Size) (r : RegOp) (s : State) : Result :=
  .next (s.shiftReg .rl z (shiftCount s.lowA) (operandSel z r))

/-- RR A,r (45_rotate_shift.md R375). -/
def execRrAr (z : Size) (r : RegOp) (s : State) : Result :=
  .next (s.shiftReg .rr z (shiftCount s.lowA) (operandSel z r))

/-- SLA A,r (45_rotate_shift.md R376). -/
def execSlaAr (z : Size) (r : RegOp) (s : State) : Result :=
  .next (s.shiftReg .sla z (shiftCount s.lowA) (operandSel z r))

/-- SRA A,r (45_rotate_shift.md R377). -/
def execSraAr (z : Size) (r : RegOp) (s : State) : Result :=
  .next (s.shiftReg .sra z (shiftCount s.lowA) (operandSel z r))

/-- SLL A,r (45_rotate_shift.md R378). -/
def execSllAr (z : Size) (r : RegOp) (s : State) : Result :=
  .next (s.shiftReg .sll z (shiftCount s.lowA) (operandSel z r))

/-- SRL A,r (45_rotate_shift.md R379). -/
def execSrlAr (z : Size) (r : RegOp) (s : State) : Result :=
  .next (s.shiftReg .srl z (shiftCount s.lowA) (operandSel z r))

/-- RLD [A,](mem) (45_rotate_shift.md R380). -/
def execRld (m : MemOp) (s : State) : Result :=
  let t := s.afterRead .byte m
  let v := s.load .byte (s.ea m)
  let a := t.regA
  .next (t.rotateDigits (s.ea m) (a.extractLsb' 4 4 ++ BitVec.extractLsb' 4 4 v)
    (BitVec.extractLsb' 0 4 v ++ a.extractLsb' 0 4))

/-- RRD [A,](mem) (45_rotate_shift.md R381). -/
def execRrd (m : MemOp) (s : State) : Result :=
  let t := s.afterRead .byte m
  let v := s.load .byte (s.ea m)
  let a := t.regA
  .next (t.rotateDigits (s.ea m) (a.extractLsb' 4 4 ++ BitVec.extractLsb' 0 4 v)
    (a.extractLsb' 0 4 ++ BitVec.extractLsb' 4 4 v))

/-- RLC<W> (mem) (45_rotate_shift.md R372). -/
def execRlcMem (z : Size) (m : MemOp) (s : State) : Result :=
  .next ((s.advance m).shiftMem .rlc z (s.ea m))

/-- RRC<W> (mem) (45_rotate_shift.md R373). -/
def execRrcMem (z : Size) (m : MemOp) (s : State) : Result :=
  .next ((s.advance m).shiftMem .rrc z (s.ea m))

/-- RL<W> (mem) (45_rotate_shift.md R374). -/
def execRlMem (z : Size) (m : MemOp) (s : State) : Result :=
  .next ((s.advance m).shiftMem .rl z (s.ea m))

/-- RR<W> (mem) (45_rotate_shift.md R375). -/
def execRrMem (z : Size) (m : MemOp) (s : State) : Result :=
  .next ((s.advance m).shiftMem .rr z (s.ea m))

/-- SLA<W> (mem) (45_rotate_shift.md R376). -/
def execSlaMem (z : Size) (m : MemOp) (s : State) : Result :=
  .next ((s.advance m).shiftMem .sla z (s.ea m))

/-- SRA<W> (mem) (45_rotate_shift.md R377). -/
def execSraMem (z : Size) (m : MemOp) (s : State) : Result :=
  .next ((s.advance m).shiftMem .sra z (s.ea m))

/-- SLL<W> (mem) (45_rotate_shift.md R378). -/
def execSllMem (z : Size) (m : MemOp) (s : State) : Result :=
  .next ((s.advance m).shiftMem .sll z (s.ea m))

/-- SRL<W> (mem) (45_rotate_shift.md R379). -/
def execSrlMem (z : Size) (m : MemOp) (s : State) : Result :=
  .next ((s.advance m).shiftMem .srl z (s.ea m))

end Sys2Proof.Machine
end

