-- ==== Sys2Proof/Machine/Undefined.lean ====
section
/-! DEFINITION. The meanings of the rows of spec/opcode_table.json that are no instruction: prefixes with no second opcode byte after
them (30_encoding.md R105, R106, R109, R110; log entry 16), and undefined and dummy codes (R122, R123; log
entry 17).
A meaning is given the state with the program counter already past the instruction (10_state.md R38). -/

namespace Sys2Proof.Machine

/-- (prefix) register, short form (30_encoding.md R105). -/
def execPrefixRegShort (_z : Size) (_r : BitVec 3) (_s : State) : Result :=
  .fault .undefinedInstruction

/-- (prefix) register, extension form (30_encoding.md R106). -/
def execPrefixRegExt (_z : Size) (_c : RegSel) (_s : State) : Result :=
  .fault .undefinedInstruction

/-- (mem) (R32) (30_encoding.md R110). -/
def execPrefixMemInd (_k : Option Size) (_R : BitVec 3) (_s : State) : Result :=
  .fault .undefinedInstruction

/-- (mem) (R32+d8) (30_encoding.md R110). -/
def execPrefixMemIndD8 (_k : Option Size) (_R : BitVec 3) (_d : BitVec 8) (_s : State) : Result :=
  .fault .undefinedInstruction

/-- (mem) (#8) (30_encoding.md R110). -/
def execPrefixMemAbs8 (_k : Option Size) (_a : BitVec 8) (_s : State) : Result :=
  .fault .undefinedInstruction

/-- (mem) (#16) (30_encoding.md R110). -/
def execPrefixMemAbs16 (_k : Option Size) (_a : BitVec 16) (_s : State) : Result :=
  .fault .undefinedInstruction

/-- (mem) (#24) (30_encoding.md R110). -/
def execPrefixMemAbs24 (_k : Option Size) (_a : BitVec 24) (_s : State) : Result :=
  .fault .undefinedInstruction

/-- (mem) (r32) (30_encoding.md R110). -/
def execPrefixMemReg (_k : Option Size) (_c : LongReg) (_s : State) : Result :=
  .fault .undefinedInstruction

/-- (mem) (r32+d16) (30_encoding.md R110). -/
def execPrefixMemRegD16 (_k : Option Size) (_c : LongReg) (_d : BitVec 16) (_s : State) : Result :=
  .fault .undefinedInstruction

/-- (mem) (r32+r8) (30_encoding.md R110). -/
def execPrefixMemRegR8 (_k : Option Size) (_c : LongReg) (_e : RegSel) (_s : State) : Result :=
  .fault .undefinedInstruction

/-- (mem) (r32+r16) (30_encoding.md R110). -/
def execPrefixMemRegR16 (_k : Option Size) (_c : LongReg) (_e : RegSel) (_s : State) : Result :=
  .fault .undefinedInstruction

/-- (mem) (-r32) (30_encoding.md R110). -/
def execPrefixMemPreDec (_k : Option Size) (_c : LongReg) (_t : Step) (_s : State) : Result :=
  .fault .undefinedInstruction

/-- (mem) (r32+) (30_encoding.md R110). -/
def execPrefixMemPostInc (_k : Option Size) (_c : LongReg) (_t : Step) (_s : State) : Result :=
  .fault .undefinedInstruction

/-- (undefined) 01H (30_encoding.md R122). -/
def execUndefined01 (_s : State) : Result :=
  .fault .undefinedInstruction

/-- (undefined) 04H (30_encoding.md R122). -/
def execUndefined04 (_s : State) : Result :=
  .fault .undefinedInstruction

/-- (undefined) 50H-57H (30_encoding.md R122). -/
def execUndefined50 (_s : State) : Result :=
  .fault .undefinedInstruction

/-- (dummy) 1FH (30_encoding.md R123). -/
def execDummy1F (_s : State) : Result :=
  .fault .undefinedInstruction

/-- (undefined) C6H (30_encoding.md R122). -/
def execUndefinedC6 (_s : State) : Result :=
  .fault .undefinedInstruction

/-- (undefined) D6H (30_encoding.md R122). -/
def execUndefinedD6 (_s : State) : Result :=
  .fault .undefinedInstruction

/-- (undefined) E6H (30_encoding.md R122). -/
def execUndefinedE6 (_s : State) : Result :=
  .fault .undefinedInstruction

/-- (undefined) F6H (30_encoding.md R122). -/
def execUndefinedF6 (_s : State) : Result :=
  .fault .undefinedInstruction

/-- (undefined) F7H (30_encoding.md R122). -/
def execUndefinedF7 (_s : State) : Result :=
  .fault .undefinedInstruction

/-- (undefined) 00H-01H (30_encoding.md R122). -/
def execUndefinedReg00 (_s : State) : Result :=
  .fault .undefinedInstruction

/-- (undefined) 02H (30_encoding.md R122). -/
def execUndefinedReg02 (_s : State) : Result :=
  .fault .undefinedInstruction

/-- (undefined) 11H (30_encoding.md R122). -/
def execUndefinedReg11 (_s : State) : Result :=
  .fault .undefinedInstruction

/-- (undefined) 15H (30_encoding.md R122). -/
def execUndefinedReg15 (_s : State) : Result :=
  .fault .undefinedInstruction

/-- (undefined) 17H (30_encoding.md R122). -/
def execUndefinedReg17 (_s : State) : Result :=
  .fault .undefinedInstruction

/-- (undefined) 18H (30_encoding.md R122). -/
def execUndefinedReg18 (_s : State) : Result :=
  .fault .undefinedInstruction

/-- (undefined) 25H (30_encoding.md R122). -/
def execUndefinedReg25 (_s : State) : Result :=
  .fault .undefinedInstruction

/-- (undefined) 26H-27H (30_encoding.md R122). -/
def execUndefinedReg26 (_s : State) : Result :=
  .fault .undefinedInstruction

/-- (undefined) 2DH (30_encoding.md R122). -/
def execUndefinedReg2D (_s : State) : Result :=
  .fault .undefinedInstruction

/-- (undefined) 35H (30_encoding.md R122). -/
def execUndefinedReg35 (_s : State) : Result :=
  .fault .undefinedInstruction

/-- (undefined) 36H-37H (30_encoding.md R122). -/
def execUndefinedReg36 (_s : State) : Result :=
  .fault .undefinedInstruction

/-- (dummy) 1AH-1BH (30_encoding.md R123). -/
def execDummyReg1A (_s : State) : Result :=
  .fault .undefinedInstruction

/-- (dummy) 1DH (30_encoding.md R123). -/
def execDummyReg1D (_s : State) : Result :=
  .fault .undefinedInstruction

/-- (dummy) 1EH-1FH (30_encoding.md R123). -/
def execDummyReg1E (_s : State) : Result :=
  .fault .undefinedInstruction

/-- (dummy) 3BH (30_encoding.md R123). -/
def execDummyReg3B (_s : State) : Result :=
  .fault .undefinedInstruction

/-- (dummy) 3FH (30_encoding.md R123). -/
def execDummyReg3F (_s : State) : Result :=
  .fault .undefinedInstruction

/-- (undefined) 00H-03H (30_encoding.md R122). -/
def execUndefinedSrc00 (_s : State) : Result :=
  .fault .undefinedInstruction

/-- (undefined) 05H (30_encoding.md R122). -/
def execUndefinedSrc05 (_s : State) : Result :=
  .fault .undefinedInstruction

/-- (undefined) 08H-0FH (30_encoding.md R122). -/
def execUndefinedSrc08 (_s : State) : Result :=
  .fault .undefinedInstruction

/-- (undefined) 18H (30_encoding.md R122). -/
def execUndefinedSrc18 (_s : State) : Result :=
  .fault .undefinedInstruction

/-- (undefined) 1AH-1BH (30_encoding.md R122). -/
def execUndefinedSrc1A (_s : State) : Result :=
  .fault .undefinedInstruction

/-- (undefined) 1CH-1FH (30_encoding.md R122). -/
def execUndefinedSrc1C (_s : State) : Result :=
  .fault .undefinedInstruction

/-- (undefined) 28H-2FH (30_encoding.md R122). -/
def execUndefinedSrc28 (_s : State) : Result :=
  .fault .undefinedInstruction

/-- (undefined) 70H-77H (30_encoding.md R122). -/
def execUndefinedSrc70 (_s : State) : Result :=
  .fault .undefinedInstruction

/-- (undefined) 03H (30_encoding.md R122). -/
def execUndefinedDst03 (_s : State) : Result :=
  .fault .undefinedInstruction

/-- (undefined) 07H (30_encoding.md R122). -/
def execUndefinedDst07 (_s : State) : Result :=
  .fault .undefinedInstruction

/-- (undefined) 08H-0FH (30_encoding.md R122). -/
def execUndefinedDst08 (_s : State) : Result :=
  .fault .undefinedInstruction

/-- (undefined) 10H-13H (30_encoding.md R122). -/
def execUndefinedDst10 (_s : State) : Result :=
  .fault .undefinedInstruction

/-- (undefined) 17H (30_encoding.md R122). -/
def execUndefinedDst17 (_s : State) : Result :=
  .fault .undefinedInstruction

/-- (undefined) 18H-1FH (30_encoding.md R122). -/
def execUndefinedDst18 (_s : State) : Result :=
  .fault .undefinedInstruction

/-- (undefined) 2DH (30_encoding.md R122). -/
def execUndefinedDst2D (_s : State) : Result :=
  .fault .undefinedInstruction

/-- (undefined) 2EH-2FH (30_encoding.md R122). -/
def execUndefinedDst2E (_s : State) : Result :=
  .fault .undefinedInstruction

/-- (undefined) 38H-3FH (30_encoding.md R122). -/
def execUndefinedDst38 (_s : State) : Result :=
  .fault .undefinedInstruction

/-- (undefined) 48H-4FH (30_encoding.md R122). -/
def execUndefinedDst48 (_s : State) : Result :=
  .fault .undefinedInstruction

/-- (undefined) 58H-5FH (30_encoding.md R122). -/
def execUndefinedDst58 (_s : State) : Result :=
  .fault .undefinedInstruction

/-- (undefined) 68H-6FH (30_encoding.md R122). -/
def execUndefinedDst68 (_s : State) : Result :=
  .fault .undefinedInstruction

/-- (undefined) 70H-7FH (30_encoding.md R122). -/
def execUndefinedDst70 (_s : State) : Result :=
  .fault .undefinedInstruction

/-- (dummy) 01H (30_encoding.md R123). -/
def execDummyDst01 (_s : State) : Result :=
  .fault .undefinedInstruction

/-- (dummy) 05H (30_encoding.md R123). -/
def execDummyDst05 (_s : State) : Result :=
  .fault .undefinedInstruction

/-- (dummy) 15H (30_encoding.md R123). -/
def execDummyDst15 (_s : State) : Result :=
  .fault .undefinedInstruction

end Sys2Proof.Machine
end

