-- ==== Sys2Proof/Machine/Dispatch.lean ====
section
/-! DEFINITION. The meaning of each instruction, one arm per constructor. -/

namespace Sys2Proof.Machine

def exec (i : Instr) (s : State) : Host.Outcome State Fault Refusal :=
  match i with
  | .ei n => Sys2Proof.Machine.execEi n s
  | .ldAbs8Imm a imm => Sys2Proof.Machine.execLdAbs8Imm a imm s
  | .pushImm imm => Sys2Proof.Machine.execPushImm imm s
  | .ldwAbs8Imm a imm => Sys2Proof.Machine.execLdwAbs8Imm a imm s
  | .pushwImm imm => Sys2Proof.Machine.execPushwImm imm s
  | .retd d => Sys2Proof.Machine.execRetd d s
  | .ldf n => Sys2Proof.Machine.execLdf n s
  | .jpAbs16 a => Sys2Proof.Machine.execJpAbs16 a s
  | .jpAbs24 a => Sys2Proof.Machine.execJpAbs24 a s
  | .callAbs16 a => Sys2Proof.Machine.execCallAbs16 a s
  | .callAbs24 a => Sys2Proof.Machine.execCallAbs24 a s
  | .calr d => Sys2Proof.Machine.execCalr d s
  | .ldRImmB R imm => Sys2Proof.Machine.execLdRImmB R imm s
  | .pushRW R => Sys2Proof.Machine.execPushRW R s
  | .ldRImmW R imm => Sys2Proof.Machine.execLdRImmW R imm s
  | .pushRL R => Sys2Proof.Machine.execPushRL R s
  | .ldRImmL R imm => Sys2Proof.Machine.execLdRImmL R imm s
  | .popRW R => Sys2Proof.Machine.execPopRW R s
  | .popRL R => Sys2Proof.Machine.execPopRL R s
  | .jr cc d => Sys2Proof.Machine.execJr cc d s
  | .jrl cc d => Sys2Proof.Machine.execJrl cc d s
  | .swi n => Sys2Proof.Machine.execSwi n s
  | .ldrImmB r imm => Sys2Proof.Machine.execLdrImmB r imm s
  | .ldrImmW r imm => Sys2Proof.Machine.execLdrImmW r imm s
  | .ldrImmL r imm => Sys2Proof.Machine.execLdrImmL r imm s
  | .pushr z r => Sys2Proof.Machine.execPushr z r s
  | .popr z r => Sys2Proof.Machine.execPopr z r s
  | .cpl z r => Sys2Proof.Machine.execCpl z r s
  | .neg z r => Sys2Proof.Machine.execNeg z r s
  | .mulrImmB r imm => Sys2Proof.Machine.execMulrImmB r imm s
  | .mulrImmW r imm => Sys2Proof.Machine.execMulrImmW r imm s
  | .mulsrImmB r imm => Sys2Proof.Machine.execMulsrImmB r imm s
  | .mulsrImmW r imm => Sys2Proof.Machine.execMulsrImmW r imm s
  | .divrImmB r imm => Sys2Proof.Machine.execDivrImmB r imm s
  | .divrImmW r imm => Sys2Proof.Machine.execDivrImmW r imm s
  | .divsrImmB r imm => Sys2Proof.Machine.execDivsrImmB r imm s
  | .divsrImmW r imm => Sys2Proof.Machine.execDivsrImmW r imm s
  | .link r d => Sys2Proof.Machine.execLink r d s
  | .unlk r => Sys2Proof.Machine.execUnlk r s
  | .bs1f r => Sys2Proof.Machine.execBs1f r s
  | .bs1b r => Sys2Proof.Machine.execBs1b r s
  | .daa r => Sys2Proof.Machine.execDaa r s
  | .extz z r => Sys2Proof.Machine.execExtz z r s
  | .exts z r => Sys2Proof.Machine.execExts z r s
  | .paa z r => Sys2Proof.Machine.execPaa z r s
  | .mirr r => Sys2Proof.Machine.execMirr r s
  | .mula r => Sys2Proof.Machine.execMula r s
  | .djnz z r d => Sys2Proof.Machine.execDjnz z r d s
  | .andcfNumr z n r => Sys2Proof.Machine.execAndcfNumr z n r s
  | .andcfAr z r => Sys2Proof.Machine.execAndcfAr z r s
  | .orcfNumr z n r => Sys2Proof.Machine.execOrcfNumr z n r s
  | .orcfAr z r => Sys2Proof.Machine.execOrcfAr z r s
  | .xorcfNumr z n r => Sys2Proof.Machine.execXorcfNumr z n r s
  | .xorcfAr z r => Sys2Proof.Machine.execXorcfAr z r s
  | .ldcfNumr z n r => Sys2Proof.Machine.execLdcfNumr z n r s
  | .ldcfAr z r => Sys2Proof.Machine.execLdcfAr z r s
  | .stcfNumr z n r => Sys2Proof.Machine.execStcfNumr z n r s
  | .stcfAr z r => Sys2Proof.Machine.execStcfAr z r s
  | .ldcCrr z k r => Sys2Proof.Machine.execLdcCrr z k r s
  | .ldcrCr z r k => Sys2Proof.Machine.execLdcrCr z r k s
  | .resNumr z n r => Sys2Proof.Machine.execResNumr z n r s
  | .setNumr z n r => Sys2Proof.Machine.execSetNumr z n r s
  | .chgNumr z n r => Sys2Proof.Machine.execChgNumr z n r s
  | .bitNumr z n r => Sys2Proof.Machine.execBitNumr z n r s
  | .tsetNumr z n r => Sys2Proof.Machine.execTsetNumr z n r s
  | .minc1 imm r => Sys2Proof.Machine.execMinc1 imm r s
  | .minc2 imm r => Sys2Proof.Machine.execMinc2 imm r s
  | .minc4 imm r => Sys2Proof.Machine.execMinc4 imm r s
  | .mdec1 imm r => Sys2Proof.Machine.execMdec1 imm r s
  | .mdec2 imm r => Sys2Proof.Machine.execMdec2 imm r s
  | .mdec4 imm r => Sys2Proof.Machine.execMdec4 imm r s
  | .mulRr z R r => Sys2Proof.Machine.execMulRr z R r s
  | .mulsRr z R r => Sys2Proof.Machine.execMulsRr z R r s
  | .divRr z R r => Sys2Proof.Machine.execDivRr z R r s
  | .divsRr z R r => Sys2Proof.Machine.execDivsRr z R r s
  | .incNumr z n r => Sys2Proof.Machine.execIncNumr z n r s
  | .decNumr z n r => Sys2Proof.Machine.execDecNumr z n r s
  | .scc z cc r => Sys2Proof.Machine.execScc z cc r s
  | .addRr z R r => Sys2Proof.Machine.execAddRr z R r s
  | .adcRr z R r => Sys2Proof.Machine.execAdcRr z R r s
  | .subRr z R r => Sys2Proof.Machine.execSubRr z R r s
  | .sbcRr z R r => Sys2Proof.Machine.execSbcRr z R r s
  | .andRr z R r => Sys2Proof.Machine.execAndRr z R r s
  | .xorRr z R r => Sys2Proof.Machine.execXorRr z R r s
  | .orRr z R r => Sys2Proof.Machine.execOrRr z R r s
  | .cpRr z R r => Sys2Proof.Machine.execCpRr z R r s
  | .ldRr z R r => Sys2Proof.Machine.execLdRr z R r s
  | .ldrR z r R => Sys2Proof.Machine.execLdrR z r R s
  | .ldrNum3 z r n => Sys2Proof.Machine.execLdrNum3 z r n s
  | .exRr z R r => Sys2Proof.Machine.execExRr z R r s
  | .addrImmB r imm => Sys2Proof.Machine.execAddrImmB r imm s
  | .addrImmW r imm => Sys2Proof.Machine.execAddrImmW r imm s
  | .addrImmL r imm => Sys2Proof.Machine.execAddrImmL r imm s
  | .adcrImmB r imm => Sys2Proof.Machine.execAdcrImmB r imm s
  | .adcrImmW r imm => Sys2Proof.Machine.execAdcrImmW r imm s
  | .adcrImmL r imm => Sys2Proof.Machine.execAdcrImmL r imm s
  | .subrImmB r imm => Sys2Proof.Machine.execSubrImmB r imm s
  | .subrImmW r imm => Sys2Proof.Machine.execSubrImmW r imm s
  | .subrImmL r imm => Sys2Proof.Machine.execSubrImmL r imm s
  | .sbcrImmB r imm => Sys2Proof.Machine.execSbcrImmB r imm s
  | .sbcrImmW r imm => Sys2Proof.Machine.execSbcrImmW r imm s
  | .sbcrImmL r imm => Sys2Proof.Machine.execSbcrImmL r imm s
  | .andrImmB r imm => Sys2Proof.Machine.execAndrImmB r imm s
  | .andrImmW r imm => Sys2Proof.Machine.execAndrImmW r imm s
  | .andrImmL r imm => Sys2Proof.Machine.execAndrImmL r imm s
  | .xorrImmB r imm => Sys2Proof.Machine.execXorrImmB r imm s
  | .xorrImmW r imm => Sys2Proof.Machine.execXorrImmW r imm s
  | .xorrImmL r imm => Sys2Proof.Machine.execXorrImmL r imm s
  | .orrImmB r imm => Sys2Proof.Machine.execOrrImmB r imm s
  | .orrImmW r imm => Sys2Proof.Machine.execOrrImmW r imm s
  | .orrImmL r imm => Sys2Proof.Machine.execOrrImmL r imm s
  | .cprImmB r imm => Sys2Proof.Machine.execCprImmB r imm s
  | .cprImmW r imm => Sys2Proof.Machine.execCprImmW r imm s
  | .cprImmL r imm => Sys2Proof.Machine.execCprImmL r imm s
  | .cprNum3 z r n => Sys2Proof.Machine.execCprNum3 z r n s
  | .rlcNumr z n r => Sys2Proof.Machine.execRlcNumr z n r s
  | .rrcNumr z n r => Sys2Proof.Machine.execRrcNumr z n r s
  | .rlNumr z n r => Sys2Proof.Machine.execRlNumr z n r s
  | .rrNumr z n r => Sys2Proof.Machine.execRrNumr z n r s
  | .slaNumr z n r => Sys2Proof.Machine.execSlaNumr z n r s
  | .sraNumr z n r => Sys2Proof.Machine.execSraNumr z n r s
  | .sllNumr z n r => Sys2Proof.Machine.execSllNumr z n r s
  | .srlNumr z n r => Sys2Proof.Machine.execSrlNumr z n r s
  | .rlcAr z r => Sys2Proof.Machine.execRlcAr z r s
  | .rrcAr z r => Sys2Proof.Machine.execRrcAr z r s
  | .rlAr z r => Sys2Proof.Machine.execRlAr z r s
  | .rrAr z r => Sys2Proof.Machine.execRrAr z r s
  | .slaAr z r => Sys2Proof.Machine.execSlaAr z r s
  | .sraAr z r => Sys2Proof.Machine.execSraAr z r s
  | .sllAr z r => Sys2Proof.Machine.execSllAr z r s
  | .srlAr z r => Sys2Proof.Machine.execSrlAr z r s
  | .pushMem z m => Sys2Proof.Machine.execPushMem z m s
  | .rld m => Sys2Proof.Machine.execRld m s
  | .rrd m => Sys2Proof.Machine.execRrd m s
  | .ldiDeHl z => Sys2Proof.Machine.execLdiDeHl z s
  | .ldiIxIy z => Sys2Proof.Machine.execLdiIxIy z s
  | .ldirDeHl z => Sys2Proof.Machine.execLdirDeHl z s
  | .ldirIxIy z => Sys2Proof.Machine.execLdirIxIy z s
  | .lddDeHl z => Sys2Proof.Machine.execLddDeHl z s
  | .lddIxIy z => Sys2Proof.Machine.execLddIxIy z s
  | .lddrDeHl z => Sys2Proof.Machine.execLddrDeHl z s
  | .lddrIxIy z => Sys2Proof.Machine.execLddrIxIy z s
  | .cpi z R => Sys2Proof.Machine.execCpi z R s
  | .cpir z R => Sys2Proof.Machine.execCpir z R s
  | .cpd z R => Sys2Proof.Machine.execCpd z R s
  | .cpdr z R => Sys2Proof.Machine.execCpdr z R s
  | .ldAbs16Mem z a m => Sys2Proof.Machine.execLdAbs16Mem z a m s
  | .ldRMem z R m => Sys2Proof.Machine.execLdRMem z R m s
  | .exMemR z m R => Sys2Proof.Machine.execExMemR z m R s
  | .addMemImmB m imm => Sys2Proof.Machine.execAddMemImmB m imm s
  | .addMemImmW m imm => Sys2Proof.Machine.execAddMemImmW m imm s
  | .adcMemImmB m imm => Sys2Proof.Machine.execAdcMemImmB m imm s
  | .adcMemImmW m imm => Sys2Proof.Machine.execAdcMemImmW m imm s
  | .subMemImmB m imm => Sys2Proof.Machine.execSubMemImmB m imm s
  | .subMemImmW m imm => Sys2Proof.Machine.execSubMemImmW m imm s
  | .sbcMemImmB m imm => Sys2Proof.Machine.execSbcMemImmB m imm s
  | .sbcMemImmW m imm => Sys2Proof.Machine.execSbcMemImmW m imm s
  | .andMemImmB m imm => Sys2Proof.Machine.execAndMemImmB m imm s
  | .andMemImmW m imm => Sys2Proof.Machine.execAndMemImmW m imm s
  | .xorMemImmB m imm => Sys2Proof.Machine.execXorMemImmB m imm s
  | .xorMemImmW m imm => Sys2Proof.Machine.execXorMemImmW m imm s
  | .orMemImmB m imm => Sys2Proof.Machine.execOrMemImmB m imm s
  | .orMemImmW m imm => Sys2Proof.Machine.execOrMemImmW m imm s
  | .cpMemImmB m imm => Sys2Proof.Machine.execCpMemImmB m imm s
  | .cpMemImmW m imm => Sys2Proof.Machine.execCpMemImmW m imm s
  | .mulRMem z R m => Sys2Proof.Machine.execMulRMem z R m s
  | .mulsRMem z R m => Sys2Proof.Machine.execMulsRMem z R m s
  | .divRMem z R m => Sys2Proof.Machine.execDivRMem z R m s
  | .divsRMem z R m => Sys2Proof.Machine.execDivsRMem z R m s
  | .incNumMem z n m => Sys2Proof.Machine.execIncNumMem z n m s
  | .decNumMem z n m => Sys2Proof.Machine.execDecNumMem z n m s
  | .rlcMem z m => Sys2Proof.Machine.execRlcMem z m s
  | .rrcMem z m => Sys2Proof.Machine.execRrcMem z m s
  | .rlMem z m => Sys2Proof.Machine.execRlMem z m s
  | .rrMem z m => Sys2Proof.Machine.execRrMem z m s
  | .slaMem z m => Sys2Proof.Machine.execSlaMem z m s
  | .sraMem z m => Sys2Proof.Machine.execSraMem z m s
  | .sllMem z m => Sys2Proof.Machine.execSllMem z m s
  | .srlMem z m => Sys2Proof.Machine.execSrlMem z m s
  | .addRMem z R m => Sys2Proof.Machine.execAddRMem z R m s
  | .addMemR z m R => Sys2Proof.Machine.execAddMemR z m R s
  | .adcRMem z R m => Sys2Proof.Machine.execAdcRMem z R m s
  | .adcMemR z m R => Sys2Proof.Machine.execAdcMemR z m R s
  | .subRMem z R m => Sys2Proof.Machine.execSubRMem z R m s
  | .subMemR z m R => Sys2Proof.Machine.execSubMemR z m R s
  | .sbcRMem z R m => Sys2Proof.Machine.execSbcRMem z R m s
  | .sbcMemR z m R => Sys2Proof.Machine.execSbcMemR z m R s
  | .andRMem z R m => Sys2Proof.Machine.execAndRMem z R m s
  | .andMemR z m R => Sys2Proof.Machine.execAndMemR z m R s
  | .xorRMem z R m => Sys2Proof.Machine.execXorRMem z R m s
  | .xorMemR z m R => Sys2Proof.Machine.execXorMemR z m R s
  | .orRMem z R m => Sys2Proof.Machine.execOrRMem z R m s
  | .orMemR z m R => Sys2Proof.Machine.execOrMemR z m R s
  | .cpRMem z R m => Sys2Proof.Machine.execCpRMem z R m s
  | .cpMemR z m R => Sys2Proof.Machine.execCpMemR z m R s
  | .ldMemImm m imm => Sys2Proof.Machine.execLdMemImm m imm s
  | .ldwMemImm m imm => Sys2Proof.Machine.execLdwMemImm m imm s
  | .popMem m => Sys2Proof.Machine.execPopMem m s
  | .popwMem m => Sys2Proof.Machine.execPopwMem m s
  | .ldMemAbs16 m a => Sys2Proof.Machine.execLdMemAbs16 m a s
  | .ldwMemAbs16 m a => Sys2Proof.Machine.execLdwMemAbs16 m a s
  | .ldaW R m => Sys2Proof.Machine.execLdaW R m s
  | .ldaL R m => Sys2Proof.Machine.execLdaL R m s
  | .ldarW R d => Sys2Proof.Machine.execLdarW R d s
  | .ldarL R d => Sys2Proof.Machine.execLdarL R d s
  | .andcfAMem m => Sys2Proof.Machine.execAndcfAMem m s
  | .orcfAMem m => Sys2Proof.Machine.execOrcfAMem m s
  | .xorcfAMem m => Sys2Proof.Machine.execXorcfAMem m s
  | .ldcfAMem m => Sys2Proof.Machine.execLdcfAMem m s
  | .stcfAMem m => Sys2Proof.Machine.execStcfAMem m s
  | .ldMemRB m R => Sys2Proof.Machine.execLdMemRB m R s
  | .ldMemRW m R => Sys2Proof.Machine.execLdMemRW m R s
  | .ldMemRL m R => Sys2Proof.Machine.execLdMemRL m R s
  | .andcfNumMem n m => Sys2Proof.Machine.execAndcfNumMem n m s
  | .orcfNumMem n m => Sys2Proof.Machine.execOrcfNumMem n m s
  | .xorcfNumMem n m => Sys2Proof.Machine.execXorcfNumMem n m s
  | .ldcfNumMem n m => Sys2Proof.Machine.execLdcfNumMem n m s
  | .stcfNumMem n m => Sys2Proof.Machine.execStcfNumMem n m s
  | .tsetNumMem n m => Sys2Proof.Machine.execTsetNumMem n m s
  | .resNumMem n m => Sys2Proof.Machine.execResNumMem n m s
  | .setNumMem n m => Sys2Proof.Machine.execSetNumMem n m s
  | .chgNumMem n m => Sys2Proof.Machine.execChgNumMem n m s
  | .bitNumMem n m => Sys2Proof.Machine.execBitNumMem n m s
  | .jpMem cc m => Sys2Proof.Machine.execJpMem cc m s
  | .callMem cc m => Sys2Proof.Machine.execCallMem cc m s
  | .retCc cc => Sys2Proof.Machine.execRetCc cc s
  | .prefixRegShort z r => Sys2Proof.Machine.execPrefixRegShort z r s
  | .prefixRegExt z c => Sys2Proof.Machine.execPrefixRegExt z c s
  | .prefixMemInd k R => Sys2Proof.Machine.execPrefixMemInd k R s
  | .prefixMemIndD8 k R d => Sys2Proof.Machine.execPrefixMemIndD8 k R d s
  | .prefixMemAbs8 k a => Sys2Proof.Machine.execPrefixMemAbs8 k a s
  | .prefixMemAbs16 k a => Sys2Proof.Machine.execPrefixMemAbs16 k a s
  | .prefixMemAbs24 k a => Sys2Proof.Machine.execPrefixMemAbs24 k a s
  | .prefixMemReg k c => Sys2Proof.Machine.execPrefixMemReg k c s
  | .prefixMemRegD16 k c d => Sys2Proof.Machine.execPrefixMemRegD16 k c d s
  | .prefixMemRegR8 k c e => Sys2Proof.Machine.execPrefixMemRegR8 k c e s
  | .prefixMemRegR16 k c e => Sys2Proof.Machine.execPrefixMemRegR16 k c e s
  | .prefixMemPreDec k c t => Sys2Proof.Machine.execPrefixMemPreDec k c t s
  | .prefixMemPostInc k c t => Sys2Proof.Machine.execPrefixMemPostInc k c t s
  | .nop => Sys2Proof.Machine.execNop s
  | .pushSr => Sys2Proof.Machine.execPushSr s
  | .popSr => Sys2Proof.Machine.execPopSr s
  | .halt => Sys2Proof.Machine.execHalt s
  | .di => Sys2Proof.Machine.execDi s
  | .reti => Sys2Proof.Machine.execReti s
  | .incf => Sys2Proof.Machine.execIncf s
  | .decf => Sys2Proof.Machine.execDecf s
  | .ret => Sys2Proof.Machine.execRet s
  | .rcf => Sys2Proof.Machine.execRcf s
  | .scf => Sys2Proof.Machine.execScf s
  | .ccf => Sys2Proof.Machine.execCcf s
  | .zcf => Sys2Proof.Machine.execZcf s
  | .pushA => Sys2Proof.Machine.execPushA s
  | .popA => Sys2Proof.Machine.execPopA s
  | .exFF => Sys2Proof.Machine.execExFF s
  | .pushF => Sys2Proof.Machine.execPushF s
  | .popF => Sys2Proof.Machine.execPopF s
  | .undefined01 => Sys2Proof.Machine.execUndefined01 s
  | .undefined04 => Sys2Proof.Machine.execUndefined04 s
  | .undefined50 => Sys2Proof.Machine.execUndefined50 s
  | .dummy1F => Sys2Proof.Machine.execDummy1F s
  | .undefinedC6 => Sys2Proof.Machine.execUndefinedC6 s
  | .undefinedD6 => Sys2Proof.Machine.execUndefinedD6 s
  | .undefinedE6 => Sys2Proof.Machine.execUndefinedE6 s
  | .undefinedF6 => Sys2Proof.Machine.execUndefinedF6 s
  | .undefinedF7 => Sys2Proof.Machine.execUndefinedF7 s
  | .undefinedReg00 => Sys2Proof.Machine.execUndefinedReg00 s
  | .undefinedReg02 => Sys2Proof.Machine.execUndefinedReg02 s
  | .undefinedReg11 => Sys2Proof.Machine.execUndefinedReg11 s
  | .undefinedReg15 => Sys2Proof.Machine.execUndefinedReg15 s
  | .undefinedReg17 => Sys2Proof.Machine.execUndefinedReg17 s
  | .undefinedReg18 => Sys2Proof.Machine.execUndefinedReg18 s
  | .undefinedReg25 => Sys2Proof.Machine.execUndefinedReg25 s
  | .undefinedReg26 => Sys2Proof.Machine.execUndefinedReg26 s
  | .undefinedReg2D => Sys2Proof.Machine.execUndefinedReg2D s
  | .undefinedReg35 => Sys2Proof.Machine.execUndefinedReg35 s
  | .undefinedReg36 => Sys2Proof.Machine.execUndefinedReg36 s
  | .dummyReg1A => Sys2Proof.Machine.execDummyReg1A s
  | .dummyReg1D => Sys2Proof.Machine.execDummyReg1D s
  | .dummyReg1E => Sys2Proof.Machine.execDummyReg1E s
  | .dummyReg3B => Sys2Proof.Machine.execDummyReg3B s
  | .dummyReg3F => Sys2Proof.Machine.execDummyReg3F s
  | .undefinedSrc00 => Sys2Proof.Machine.execUndefinedSrc00 s
  | .undefinedSrc05 => Sys2Proof.Machine.execUndefinedSrc05 s
  | .undefinedSrc08 => Sys2Proof.Machine.execUndefinedSrc08 s
  | .undefinedSrc18 => Sys2Proof.Machine.execUndefinedSrc18 s
  | .undefinedSrc1A => Sys2Proof.Machine.execUndefinedSrc1A s
  | .undefinedSrc1C => Sys2Proof.Machine.execUndefinedSrc1C s
  | .undefinedSrc28 => Sys2Proof.Machine.execUndefinedSrc28 s
  | .undefinedSrc70 => Sys2Proof.Machine.execUndefinedSrc70 s
  | .undefinedDst03 => Sys2Proof.Machine.execUndefinedDst03 s
  | .undefinedDst07 => Sys2Proof.Machine.execUndefinedDst07 s
  | .undefinedDst08 => Sys2Proof.Machine.execUndefinedDst08 s
  | .undefinedDst10 => Sys2Proof.Machine.execUndefinedDst10 s
  | .undefinedDst17 => Sys2Proof.Machine.execUndefinedDst17 s
  | .undefinedDst18 => Sys2Proof.Machine.execUndefinedDst18 s
  | .undefinedDst2D => Sys2Proof.Machine.execUndefinedDst2D s
  | .undefinedDst2E => Sys2Proof.Machine.execUndefinedDst2E s
  | .undefinedDst38 => Sys2Proof.Machine.execUndefinedDst38 s
  | .undefinedDst48 => Sys2Proof.Machine.execUndefinedDst48 s
  | .undefinedDst58 => Sys2Proof.Machine.execUndefinedDst58 s
  | .undefinedDst68 => Sys2Proof.Machine.execUndefinedDst68 s
  | .undefinedDst70 => Sys2Proof.Machine.execUndefinedDst70 s
  | .dummyDst01 => Sys2Proof.Machine.execDummyDst01 s
  | .dummyDst05 => Sys2Proof.Machine.execDummyDst05 s
  | .dummyDst15 => Sys2Proof.Machine.execDummyDst15 s

end Sys2Proof.Machine
end

