-- ==== Sys2Proof/Machine/Run.lean ====
section
/-! DEFINITION. What one step of the machine is made of: the sampling point, fetching and decoding the
instruction at the program counter, running it, and the test for stores into the prefetch windows. -/

namespace Sys2Proof.Machine

/-! ### Fetch (30_encoding.md R101, 20_memory.md R85) -/

/-- The instruction at an address and its length. Every byte is read from memory when the instruction
is decoded (20_memory.md R85). -/
def State.fetchAt (s : State) (a : Addr) : Except DecodeError (Instr × Nat) :=
  match decode (s.bus.bytesAt Config.maxLength a) with
  | .ok (i, rest) => .ok (i, Config.maxLength - rest.length)
  | .error e => .error e

/-- The fault of a rejection (00_scope.md R9). Memory always supplies the longest instruction's bytes,
so `truncated` does not come from a fetch. -/
def decodeFault : DecodeError → Fault
  | .undefinedInstruction | .truncated => .undefinedInstruction
  | .undefinedRegisterCode => .undefinedRegisterCode
  | .undefinedControlRegister => .undefinedControlRegister

/-! ### Stores into code that may be prefetched (20_memory.md R85; log entries 6 and 7) -/

/-- The target of a jump, call or return with `next` the address after it; none for any other
instruction. A target that registers or memory supply is taken as they now stand (DESIGN CHOICE, log
entry 7). -/
def State.branchTarget (s : State) (i : Instr) (next : Addr) : Option Addr :=
  match i with
  | .jpAbs16 a | .callAbs16 a => some (a.setWidth 32)
  | .jpAbs24 a | .callAbs24 a => some (a.setWidth 32)
  | .jr _ d | .djnz _ _ d => some (next + d.signExtend 32)
  | .jrl _ d | .calr d => some (next + d.signExtend 32)
  | .jpMem _ m | .callMem _ m => some (s.ea m)
  | .ret | .retCc _ | .retd _ => some (s.top .long)
  | .reti => some (s.load .long (s.xsp + 2#32))
  | _ => none

/-- The targets of the branch instructions that begin `off` to 12 bytes after `start`, read in a row.
DESIGN CHOICE (log entry 7; 20_memory.md R85 and 70_reset_and_hazards.md R465 are silent): reading goes
on past an undefined or dummy code that is a row of the opcode table, whose length the table gives, and
stops at bytes that are no row of it. -/
def State.branchTargets (s : State) (start : Addr) : Nat → Nat → List Addr
  | 0, _ => []
  | fuel + 1, off =>
    if Config.queueBytes < off then []
    else
      match s.fetchAt (start + BitVec.ofNat 32 off) with
      | .ok (i, len) =>
        (s.branchTarget i (start + BitVec.ofNat 32 (off + len))).toList
          ++ s.branchTargets start fuel (off + len)
      | .error _ => []

/-- The bus address is that of one of the 12 bytes from `w` on. -/
def inWindow (w : Addr) (a : Nat) : Bool :=
  (List.range Config.queueBytes).any fun k => a == busAddr (w + BitVec.ofNat 32 k)

/-- An instruction at `start`, `len` bytes long, has stored into one of the windows: the 12 bytes after
its first byte, or the first 12 bytes at the target of a branch instruction among those. -/
def State.staleFetch (s : State) (start : Addr) (len : Nat) : Bool :=
  s.written.any fun a =>
    inWindow (start + 1#32) a
      || (s.branchTargets start Config.queueBytes len).any fun w => inWindow w a

/-! ### Running an instruction -/

/-- The state in which the instruction at the program counter, `len` bytes long, is executed: the
program counter past it (10_state.md R38), no store noted, nothing left to repeat. -/
def State.past (s : State) (len : Nat) : State :=
  { s with pc := s.pc + BitVec.ofNat 32 len, written := [], repeating := none }

/-- The state in which an instruction that is fetched is executed: devices have seen the fetch of its own
bytes, and of no byte after it (30_encoding.md R101; log entry 31). -/
def State.fetched (s : State) (len : Nat) : State :=
  { s.past len with bus := s.bus.noteReads len s.pc }

/-- The noted stores forgotten at the end of a step. -/
def State.settled (s : State) : State := { s with written := [] }

/-- Runs an instruction at `start`, `len` bytes long, in the state in which it is executed. -/
def State.runInstr (s : State) (i : Instr) (start : Addr) (len : Nat) : Result :=
  match exec i s with
  | .next t => if t.staleFetch start len then .fault .staleFetchHazard else .next t.settled
  | .fault f => .fault f
  | .refused r => .refused r

/-- Fetches the instruction at the program counter and runs it; a repeating block instruction goes on
with its next item and is not fetched again (41_block_transfer_search.md R202; log entry 11). -/
def State.runNext (s : State) : Result :=
  match s.repeating with
  | some i => (s.past 2).runInstr i s.pc 2
  | none =>
    match s.fetchAt s.pc with
    | .ok (i, len) => (s.fetched len).runInstr i s.pc len
    | .error e => .fault (decodeFault e)

/-- Between the items of CPIR and CPDR nothing is sampled (41_block_transfer_search.md R209); only
reset, which overrides everything (60_exceptions.md R431), ends such a search (log entry 12). -/
def State.unsampled (s : State) : Bool :=
  match s.repeating, s.inputs with
  | some (.cpir _ _), .reset :: _ => false
  | some (.cpdr _ _), .reset :: _ => false
  | some (.cpir _ _), _ => true
  | some (.cpdr _ _), _ => true
  | _, _ => false

/-- One step: a sampling point, then, if no event is taken there, the next instruction or, while
halted, nothing (60_exceptions.md R424, R431, R437). -/
def State.stepOnce (s : State) : Result :=
  if s.unsampled then s.runNext
  else
    match s.sample with
    | .event t => .next t.settled
    | .goOn t => if t.halted then .next t else t.runNext

/-! ### Placing an instruction -/

/-- The bytes of an instruction word, with zeros up to the longest instruction. -/
def fetchBytes (nbits w : Nat) : List Byte :=
  (tableBytes nbits w ++ zeroBytes).take Config.maxLength

/-- The state with an instruction stored at the program counter, about to be fetched: nothing
presented, not halted, nothing left to repeat. -/
def State.placed (s : State) (nbits w : Nat) : State :=
  { s with bus := s.bus.place s.pc (fetchBytes nbits w), inputs := [], halted := false,
           repeating := none }

end Sys2Proof.Machine
end

