-- ==== Sys2Proof/Machine/Step.lean ====
section
/-! DEFINITION. One step of the machine, and the placing of an instruction where it is fetched. -/

namespace Sys2Proof.Machine

/-- One step of the machine: see `State.stepOnce`. -/
def step : State → Host.Outcome State Fault Refusal := State.stepOnce

/-- The state with the instruction whose bits are `w` stored at the program counter, so that the next
step fetches and runs exactly it: see `State.placed` (log entries 4 and 15). -/
def State.withFetchWord (s : State) (nbits w : Nat) : State := s.placed nbits w

end Sys2Proof.Machine
end

