-- ==== Sys2Proof/Machine/Forms.lean ====
section
/-! DEFINITION. The constructors of `Instr` that share a shape, as functions of their operation, so that
one statement can name them all; and which rows are no instruction. -/

namespace Sys2Proof.Machine

/-- op R,r (42_arithmetic.md R234). -/
def formRr (op : AluOp) (z : Size) (R : BitVec 3) (r : RegOp) : Instr :=
  match op with
  | .add => .addRr z R r
  | .adc => .adcRr z R r
  | .sub => .subRr z R r
  | .sbc => .sbcRr z R r
  | .and => .andRr z R r
  | .xor => .xorRr z R r
  | .or => .orRr z R r
  | .cp => .cpRr z R r

/-- op r,# of byte size (42_arithmetic.md R234). -/
def formImmB (op : AluOp) (r : RegOp) (i : BitVec 8) : Instr :=
  match op with
  | .add => .addrImmB r i
  | .adc => .adcrImmB r i
  | .sub => .subrImmB r i
  | .sbc => .sbcrImmB r i
  | .and => .andrImmB r i
  | .xor => .xorrImmB r i
  | .or => .orrImmB r i
  | .cp => .cprImmB r i

/-- op r,# of word size (42_arithmetic.md R234). -/
def formImmW (op : AluOp) (r : RegOp) (i : BitVec 16) : Instr :=
  match op with
  | .add => .addrImmW r i
  | .adc => .adcrImmW r i
  | .sub => .subrImmW r i
  | .sbc => .sbcrImmW r i
  | .and => .andrImmW r i
  | .xor => .xorrImmW r i
  | .or => .orrImmW r i
  | .cp => .cprImmW r i

/-- op r,# of long word size (42_arithmetic.md R234). -/
def formImmL (op : AluOp) (r : RegOp) (i : BitVec 32) : Instr :=
  match op with
  | .add => .addrImmL r i
  | .adc => .adcrImmL r i
  | .sub => .subrImmL r i
  | .sbc => .sbcrImmL r i
  | .and => .andrImmL r i
  | .xor => .xorrImmL r i
  | .or => .orrImmL r i
  | .cp => .cprImmL r i

/-- op R,(mem) (42_arithmetic.md R234). -/
def formRMem (op : AluOp) (z : Size) (R : BitVec 3) (m : MemOp) : Instr :=
  match op with
  | .add => .addRMem z R m
  | .adc => .adcRMem z R m
  | .sub => .subRMem z R m
  | .sbc => .sbcRMem z R m
  | .and => .andRMem z R m
  | .xor => .xorRMem z R m
  | .or => .orRMem z R m
  | .cp => .cpRMem z R m

/-- op (mem),R (42_arithmetic.md R234). -/
def formMemR (op : AluOp) (z : Size) (m : MemOp) (R : BitVec 3) : Instr :=
  match op with
  | .add => .addMemR z m R
  | .adc => .adcMemR z m R
  | .sub => .subMemR z m R
  | .sbc => .sbcMemR z m R
  | .and => .andMemR z m R
  | .xor => .xorMemR z m R
  | .or => .orMemR z m R
  | .cp => .cpMemR z m R

/-- op (mem),# of byte size (42_arithmetic.md R234). -/
def formMemImmB (op : AluOp) (m : MemOp) (i : BitVec 8) : Instr :=
  match op with
  | .add => .addMemImmB m i
  | .adc => .adcMemImmB m i
  | .sub => .subMemImmB m i
  | .sbc => .sbcMemImmB m i
  | .and => .andMemImmB m i
  | .xor => .xorMemImmB m i
  | .or => .orMemImmB m i
  | .cp => .cpMemImmB m i

/-- op (mem),# of word size (42_arithmetic.md R234). -/
def formMemImmW (op : AluOp) (m : MemOp) (i : BitVec 16) : Instr :=
  match op with
  | .add => .addMemImmW m i
  | .adc => .adcMemImmW m i
  | .sub => .subMemImmW m i
  | .sbc => .sbcMemImmW m i
  | .and => .andMemImmW m i
  | .xor => .xorMemImmW m i
  | .or => .orMemImmW m i
  | .cp => .cpMemImmW m i

/-- op #4,r of the rotates and shifts (45_rotate_shift.md R370). -/
def formShiftNum (op : ShiftOp) (z : Size) (n : BitVec 4) (r : RegOp) : Instr :=
  match op with
  | .rlc => .rlcNumr z n r
  | .rrc => .rrcNumr z n r
  | .rl => .rlNumr z n r
  | .rr => .rrNumr z n r
  | .sla => .slaNumr z n r
  | .sra => .sraNumr z n r
  | .sll => .sllNumr z n r
  | .srl => .srlNumr z n r

/-- op A,r of the rotates and shifts (45_rotate_shift.md R370). -/
def formShiftA (op : ShiftOp) (z : Size) (r : RegOp) : Instr :=
  match op with
  | .rlc => .rlcAr z r
  | .rrc => .rrcAr z r
  | .rl => .rlAr z r
  | .rr => .rrAr z r
  | .sla => .slaAr z r
  | .sra => .sraAr z r
  | .sll => .sllAr z r
  | .srl => .srlAr z r

/-- op (mem) of the rotates and shifts (45_rotate_shift.md R370). -/
def formShiftMem (op : ShiftOp) (z : Size) (m : MemOp) : Instr :=
  match op with
  | .rlc => .rlcMem z m
  | .rrc => .rrcMem z m
  | .rl => .rlMem z m
  | .rr => .rrMem z m
  | .sla => .slaMem z m
  | .sra => .sraMem z m
  | .sll => .sllMem z m
  | .srl => .srlMem z m

/-- xxCF #4,r (43_logic_bit.md R295). -/
def formCarryNum (op : CarryOp) (z : Size) (n : BitVec 4) (r : RegOp) : Instr :=
  match op with
  | .and => .andcfNumr z n r
  | .or => .orcfNumr z n r
  | .xor => .xorcfNumr z n r
  | .load => .ldcfNumr z n r

/-- xxCF A,r (43_logic_bit.md R295). -/
def formCarryA (op : CarryOp) (z : Size) (r : RegOp) : Instr :=
  match op with
  | .and => .andcfAr z r
  | .or => .orcfAr z r
  | .xor => .xorcfAr z r
  | .load => .ldcfAr z r

/-- xxCF #3,(mem) (43_logic_bit.md R295). -/
def formCarryNumMem (op : CarryOp) (n : BitVec 3) (m : MemOp) : Instr :=
  match op with
  | .and => .andcfNumMem n m
  | .or => .orcfNumMem n m
  | .xor => .xorcfNumMem n m
  | .load => .ldcfNumMem n m

/-- xxCF A,(mem) (43_logic_bit.md R295). -/
def formCarryAMem (op : CarryOp) (m : MemOp) : Instr :=
  match op with
  | .and => .andcfAMem m
  | .or => .orcfAMem m
  | .xor => .xorcfAMem m
  | .load => .ldcfAMem m

/-- RES, SET, CHG #4,r (43_logic_bit.md R312). -/
def formBitNum (op : BitOp) (z : Size) (n : BitVec 4) (r : RegOp) : Instr :=
  match op with
  | .res => .resNumr z n r
  | .set => .setNumr z n r
  | .chg => .chgNumr z n r

/-- RES, SET, CHG #3,(mem) (43_logic_bit.md R312). -/
def formBitMem (op : BitOp) (n : BitVec 3) (m : MemOp) : Instr :=
  match op with
  | .res => .resNumMem n m
  | .set => .setNumMem n m
  | .chg => .chgNumMem n m

/-- MUL or MULS RR,r (42_arithmetic.md R240). -/
def formMul (signed : Bool) (z : Size) (R : BitVec 3) (r : RegOp) : Instr :=
  if signed then .mulsRr z R r else .mulRr z R r

/-- MUL or MULS RR,(mem) (42_arithmetic.md R240). -/
def formMulMem (signed : Bool) (z : Size) (R : BitVec 3) (m : MemOp) : Instr :=
  if signed then .mulsRMem z R m else .mulRMem z R m

/-- DIV or DIVS RR,r (42_arithmetic.md R240). -/
def formDiv (signed : Bool) (z : Size) (R : BitVec 3) (r : RegOp) : Instr :=
  if signed then .divsRr z R r else .divRr z R r

/-- DIV or DIVS RR,(mem) (42_arithmetic.md R240). -/
def formDivMem (signed : Bool) (z : Size) (R : BitVec 3) (m : MemOp) : Instr :=
  if signed then .divsRMem z R m else .divRMem z R m

/-- MUL or MULS rr,# (42_arithmetic.md R240): a byte or word immediate. -/
def formMulImm (signed : Bool) (r : RegOp) : BitVec 8 ⊕ BitVec 16 → Instr
  | .inl i => if signed then .mulsrImmB r i else .mulrImmB r i
  | .inr i => if signed then .mulsrImmW r i else .mulrImmW r i

/-- DIV or DIVS rr,# (42_arithmetic.md R240): a byte or word immediate. -/
def formDivImm (signed : Bool) (r : RegOp) : BitVec 8 ⊕ BitVec 16 → Instr
  | .inl i => if signed then .divsrImmB r i else .divrImmB r i
  | .inr i => if signed then .divsrImmW r i else .divrImmW r i

/-- The operand pointers of a block transfer: (XDE, XHL), or (XIX, XIY) for the index operands
(41_block_transfer_search.md R200). -/
def blockPointers (index : Bool) : LongReg × LongReg :=
  if index then (longXIX, longXIY) else (longXDE, longXHL)

/-- LDI or LDD (41_block_transfer_search.md R200). -/
def formTransfer (down index : Bool) (z : Size) : Instr :=
  match down, index with
  | false, false => .ldiDeHl z
  | false, true => .ldiIxIy z
  | true, false => .lddDeHl z
  | true, true => .lddIxIy z

/-- LDIR or LDDR (41_block_transfer_search.md R200). -/
def formTransferRepeat (down index : Bool) (z : Size) : Instr :=
  match down, index with
  | false, false => .ldirDeHl z
  | false, true => .ldirIxIy z
  | true, false => .lddrDeHl z
  | true, true => .lddrIxIy z

/-- CPI or CPD (41_block_transfer_search.md R200). -/
def formSearch (down : Bool) (z : Size) (R : BitVec 3) : Instr :=
  if down then .cpd z R else .cpi z R

/-- CPIR or CPDR (41_block_transfer_search.md R200). -/
def formSearchRepeat (down : Bool) (z : Size) (R : BitVec 3) : Instr :=
  if down then .cpdr z R else .cpir z R

/-- MINC1, MINC2, MINC4, MDEC1, MDEC2, MDEC4 with the encoded immediate `# - k`
(42_arithmetic.md R235). -/
def formModulo (down : Bool) (k : Step) (i : BitVec 16) (r : RegOp) : Instr :=
  match down, k with
  | false, .one => .minc1 i r
  | false, .two => .minc2 i r
  | false, .four => .minc4 i r
  | true, .one => .mdec1 i r
  | true, .two => .mdec2 i r
  | true, .four => .mdec4 i r

/-- The repeating block instructions: the only ones that take more than one step. -/
def isRepeating : Instr → Bool
  | .ldirDeHl _ | .ldirIxIy _ | .lddrDeHl _ | .lddrIxIy _ | .cpir _ _ | .cpdr _ _ => true
  | _ => false

/-- The rows that describe a prefix or an addressing mode: no instruction (30_encoding.md R105, R106,
R109, R110). -/
def isLonePrefix : Instr → Bool
  | .prefixRegShort _ _ | .prefixRegExt _ _ | .prefixMemInd _ _ | .prefixMemIndD8 _ _ _
  | .prefixMemAbs8 _ _ | .prefixMemAbs16 _ _ | .prefixMemAbs24 _ _ | .prefixMemReg _ _
  | .prefixMemRegD16 _ _ _ | .prefixMemRegR8 _ _ _ | .prefixMemRegR16 _ _ _
  | .prefixMemPreDec _ _ _ | .prefixMemPostInc _ _ _ => true
  | _ => false

/-- The rows of undefined and dummy codes (30_encoding.md R122, R123). -/
def undefinedRows : List Instr := [
  .undefined01, .undefined04, .undefined50, .dummy1F, .undefinedC6, .undefinedD6, .undefinedE6,
  .undefinedF6, .undefinedF7, .undefinedReg00, .undefinedReg02, .undefinedReg11, .undefinedReg15,
  .undefinedReg17, .undefinedReg18, .undefinedReg25, .undefinedReg26, .undefinedReg2D,
  .undefinedReg35, .undefinedReg36, .dummyReg1A, .dummyReg1D, .dummyReg1E, .dummyReg3B,
  .dummyReg3F, .undefinedSrc00, .undefinedSrc05, .undefinedSrc08, .undefinedSrc18,
  .undefinedSrc1A, .undefinedSrc1C, .undefinedSrc28, .undefinedSrc70, .undefinedDst03,
  .undefinedDst07, .undefinedDst08, .undefinedDst10, .undefinedDst17, .undefinedDst18,
  .undefinedDst2D, .undefinedDst2E, .undefinedDst38, .undefinedDst48, .undefinedDst58,
  .undefinedDst68, .undefinedDst70, .dummyDst01, .dummyDst05, .dummyDst15]

end Sys2Proof.Machine
end

