-- ==== Sys2Proof/Safety.lean ====
section
/-! DEFINITION. The terms in which claims about the machine are made: what of the machine is kept, what
the results of the families are in the words of the spec, and the invariant of the machine. An undefined
value is not mentioned, so a claim holds for every value of it. -/

namespace Sys2Proof.Machine

/-! ### What is kept -/

/-- Byte `j` of the 32-bit register stored at `k` (10_state.md R22). -/
def State.regByte (s : State) (k : Fin 20) (j : Nat) : Byte := BitVec.extractLsb' (8 * j) 8 s.gpr[k]

/-- A register part of a size is stored in byte `j` of the register at `k` (10_state.md R22, R23). -/
def occupies (rfp : BitVec 2) (p : Size × RegSel) (k : Fin 20) (j : Nat) : Prop :=
  k = gprIndex rfp p.2.whole ∧ p.2.part.toNat ≤ j ∧ j < p.2.part.toNat + p.1.bytes

/-- Every byte of every general register is kept but those of the listed parts. -/
def RegsKept (s t : State) (l : List (Size × RegSel)) : Prop :=
  ∀ k j, j < 4 → (∀ p ∈ l, ¬occupies s.rfp p k j) → t.regByte k j = s.regByte k j

/-- Every listed address holds RAM. -/
def RamAt (s : State) (l : List Nat) : Prop := ∀ a ∈ l, s.kindAt a = .ram

/-- Every listed address holds RAM or ROM. -/
def MemoryAt (s : State) (l : List Nat) : Prop := ∀ a ∈ l, (s.kindAt a).isMemory = true

/-- Every byte that RAM or ROM holds is kept but those of RAM at the listed addresses. -/
def MemKept (s t : State) (l : List Nat) : Prop :=
  ∀ a, (a ∈ l → s.kindAt a ≠ .ram) → t.byteAt a = s.byteAt a

/-- The address space is kept but for stores to the listed addresses: the memory map, every other byte,
and, unless a listed address is a device's, what devices have seen; no store elsewhere is noted. -/
def SpaceKept (s t : State) (l : List Nat) : Prop :=
  t.bus.map = s.bus.map ∧ MemKept s t l ∧ (MemoryAt s l → t.bus.accesses = s.bus.accesses)
    ∧ ∀ a ∈ t.written, a ∈ s.written ∨ a ∈ l

/-- The control registers are kept (10_state.md R42). -/
def ControlKept (s t : State) : Prop :=
  t.dmas = s.dmas ∧ t.dmad = s.dmad ∧ t.dmac = s.dmac ∧ t.dmam = s.dmam ∧ t.intnest = s.intnest

/-- IFF, RFP, F', halted, what the outside presents and what is being repeated are kept. -/
def ModeKept (s t : State) : Prop :=
  t.iff = s.iff ∧ t.rfp = s.rfp ∧ t.altFlags = s.altFlags ∧ t.halted = s.halted ∧ t.inputs = s.inputs
    ∧ t.repeating = s.repeating

/-- Everything is kept but the listed register parts, the listed bytes of memory, F and PC. Where an
instruction reads an operand from memory, `s` is the state after that read (`State.afterRead`,
`State.loaded`), so that a device has seen that read and no other access. -/
def Frame (s t : State) (regs : List (Size × RegSel)) (mem : List Nat) : Prop :=
  RegsKept s t regs ∧ SpaceKept s t mem ∧ ControlKept s t ∧ ModeKept s t

/-- The accesses that devices see of a read of `k` bytes at `a`, the latest first. -/
def readsSeen (map : MemoryMap) (k : Nat) (a : Addr) : List DeviceAccess :=
  ((List.range k).filterMap fun i =>
    if (map.kindAt (busAddr (a + BitVec.ofNat 32 i))).isMemory then none
    else some (.read (busAddr (a + BitVec.ofNat 32 i)))).reverse

/-- The accesses that devices see of a value stored at `a`, the latest first. -/
def writesSeen (map : MemoryMap) (z : Size) (a : Addr) (v : BitVec z.bits) : List DeviceAccess :=
  ((List.range z.bytes).filterMap fun i =>
    if (map.kindAt (busAddr (a + BitVec.ofNat 32 i))).isMemory then none
    else some (.write (busAddr (a + BitVec.ofNat 32 i)) (v.extractLsb' (8 * i) 8))).reverse

/-- The bytes of RAM at a location hold a value (20_memory.md R73). -/
def Holds (t : State) (z : Size) (a : Addr) (v : BitVec z.bits) : Prop :=
  ∀ i, i < z.bytes → t.kindAt (busAddr (a + BitVec.ofNat 32 i)) = .ram →
    t.byteAt (busAddr (a + BitVec.ofNat 32 i)) = v.extractLsb' (8 * i) 8

/-- From `s` to `t` a value is stored at a location: RAM holds it, and devices have seen it; ROM is kept by
the frame (20_memory.md R75, R87). -/
def Stored (s t : State) (z : Size) (a : Addr) (v : BitVec z.bits) : Prop :=
  Holds t z a v ∧ t.bus.accesses = writesSeen s.bus.map z a v ++ s.bus.accesses

/-- From `s` to `t` a register part takes a value, F becomes `f`, and nothing else changes. -/
def WroteReg (s t : State) (z : Size) (c : RegSel) (v : BitVec z.bits) (f : Flags) : Prop :=
  t.readSel z c = v ∧ t.flags = f ∧ t.pc = s.pc ∧ Frame s t [(z, c)] []

/-- From `s` to `t` a value is stored at a location, F becomes `f`, and nothing else changes; the store is
noted for the test of 20_memory.md R85. -/
def WroteMem (s t : State) (z : Size) (a : Addr) (v : BitVec z.bits) (f : Flags) : Prop :=
  Stored s t z a v ∧ (∀ x ∈ spanOf z.bytes a, x ∈ t.written) ∧ t.flags = f ∧ t.pc = s.pc
    ∧ Frame s t [] (spanOf z.bytes a)

/-- From `s` to `t` F becomes `f`, and nothing else changes. -/
def WroteFlags (s t : State) (f : Flags) : Prop := t.flags = f ∧ t.pc = s.pc ∧ Frame s t [] []

/-- From `s` to `t` PC becomes `a`, and nothing else changes. -/
def Jumped (s t : State) (a : Addr) : Prop := t.pc = a ∧ t.flags = s.flags ∧ Frame s t [] []

/-- From `s` to `t` a value is pushed and PC becomes `a`; nothing else changes (00_scope.md R9). -/
def Pushed (s t : State) (z : Size) (v : BitVec z.bits) (a : Addr) : Prop :=
  t.xsp = s.xsp - sizeWord z ∧ Stored s t z t.xsp v ∧ (∀ x ∈ spanOf z.bytes t.xsp, x ∈ t.written)
    ∧ t.pc = a ∧ t.flags = s.flags ∧ Frame s t [(.long, ⟨longXSP, 0#2⟩)] (spanOf z.bytes t.xsp)

/-- The 32-bit register `c` as a register part. -/
def wholeOf (c : LongReg) : Size × RegSel := (.long, ⟨c, 0#2⟩)

/-- The registers an addressing mode steps (30_encoding.md R111). -/
def steppedRegs : MemOp → List (Size × RegSel)
  | .preDec c _ | .postInc c _ => [wholeOf c]
  | .ind _ | .indD8 _ _ | .abs8 _ | .abs16 _ | .abs24 _ | .reg _ | .regD16 _ _ | .regR8 _ _
  | .regR16 _ _ => []

/-- From `s` to `t` the 6-byte frame of SWI and of interrupt entry is pushed: SR at the new XSP and the
32-bit PC at XSP + 2; a device sees PC first in interrupt entry, SR first in SWI (44_cpu_control.md R345,
60_exceptions.md R425). -/
def FramePushed (pcFirst : Bool) (s t : State) : Prop :=
  t.xsp = s.xsp - 6#32 ∧ Holds t .word t.xsp s.sr ∧ Holds t .long (t.xsp + 2#32) s.pc
    ∧ RegsKept s t [wholeOf longXSP] ∧ SpaceKept s t (spanOf 6 t.xsp)
    ∧ t.bus.accesses
      = (if pcFirst then writesSeen s.bus.map .word t.xsp s.sr
            ++ writesSeen s.bus.map .long (t.xsp + 2#32) s.pc
          else writesSeen s.bus.map .long (t.xsp + 2#32) s.pc
            ++ writesSeen s.bus.map .word t.xsp s.sr)
        ++ s.bus.accesses

/-- From `s` to `t` the frame is pushed and then PC is read from the vector at FFFF00H + `offset`, four
bytes of it (60_exceptions.md R426). -/
def VectorTaken (pcFirst : Bool) (s t : State) (offset : Nat) : Prop :=
  ∃ u, FramePushed pcFirst s u ∧ t.pc = u.load .long (BitVec.ofNat 32 (0xFFFF00 + offset))
    ∧ t.bus = (u.loaded .long (BitVec.ofNat 32 (0xFFFF00 + offset))).bus ∧ t.gpr = u.gpr

/-! ### Results in the words of the spec -/

/-- The S and Z flags of a result (10_state.md R34). -/
def SignZero (z : Size) (v : BitVec z.bits) (f : Flags) : Prop := f.s = v.msb ∧ (f.z = true ↔ v = 0)

/-- A long word result leaves the flag open; a byte or word result fixes it (10_state.md R34). -/
def UnlessLong (z : Size) (p : Prop) : Prop := z ≠ .long → p

/-- The number of 1 bits of a value is even. -/
def EvenOnes (z : Size) (v : BitVec z.bits) : Prop :=
  (((List.range z.bits).filter fun i => v.getLsbD i).length) % 2 = 0

/-- `add_n(a, b, cin)` gives `v` with flags `f`; H is open for a long word (42_arithmetic.md R220). -/
def AddSpec (z : Size) (a b : BitVec z.bits) (cin : Bool) (v : BitVec z.bits) (f : Flags) : Prop :=
  v.toNat = (a.toNat + b.toNat + cin.toNat) % 2 ^ z.bits ∧ SignZero z v f
    ∧ UnlessLong z (f.h = true ↔ a.toNat % 16 + b.toNat % 16 + cin.toNat > 15)
    ∧ (f.v = true ↔ a.msb = b.msb ∧ v.msb ≠ a.msb) ∧ f.n = false
    ∧ (f.c = true ↔ a.toNat + b.toNat + cin.toNat ≥ 2 ^ z.bits)

/-- `sub_n(a, b, bin)` gives `v` with flags `f`; H is open for a long word (42_arithmetic.md R221). -/
def SubSpec (z : Size) (a b : BitVec z.bits) (bin : Bool) (v : BitVec z.bits) (f : Flags) : Prop :=
  ((v.toNat : Int) = ((a.toNat : Int) - b.toNat - bin.toNat) % 2 ^ z.bits) ∧ SignZero z v f
    ∧ UnlessLong z (f.h = true ↔ a.toNat % 16 < b.toNat % 16 + bin.toNat)
    ∧ (f.v = true ↔ a.msb ≠ b.msb ∧ v.msb ≠ a.msb) ∧ f.n = true
    ∧ (f.c = true ↔ (a.toNat : Int) - b.toNat - bin.toNat < 0)

/-- The flags of AND, OR, XOR for a result, `h` for AND; V is open for a long word
(43_logic_bit.md R290). -/
def LogicFlags (z : Size) (h : Bool) (v : BitVec z.bits) (f : Flags) : Prop :=
  SignZero z v f ∧ f.h = h ∧ UnlessLong z (f.v = true ↔ EvenOnes z v) ∧ f.n = false ∧ f.c = false

/-- The operation of `a` and `b` with carry `c` gives `v` with flags `f`
(42_arithmetic.md R222 to R226, 43_logic_bit.md R291 to R293). -/
def AluSpec (op : AluOp) (z : Size) (a b : BitVec z.bits) (c : Bool) (v : BitVec z.bits) (f : Flags) :
    Prop :=
  match op with
  | .add => AddSpec z a b false v f
  | .adc => AddSpec z a b c v f
  | .sub | .cp => SubSpec z a b false v f
  | .sbc => SubSpec z a b c v f
  | .and => v = a &&& b ∧ LogicFlags z true v f
  | .xor => v = a ^^^ b ∧ LogicFlags z false v f
  | .or => v = a ||| b ∧ LogicFlags z false v f

/-- What the destination `a` holds after: the result, or for CP what it held. -/
def AluStored (op : AluOp) (z : Size) (a v : BitVec z.bits) : BitVec z.bits :=
  match op with
  | .cp => a
  | .add | .adc | .sub | .sbc | .and | .xor | .or => v

/-- `count` rotates or shifts of `d` with carry `c` give `v` and carry `c'`, in closed form
(45_rotate_shift.md R372 to R379). -/
def ShiftSpec (op : ShiftOp) (z : Size) (count : Nat) (d : BitVec z.bits) (c : Bool)
    (v : BitVec z.bits) (c' : Bool) : Prop :=
  match op with
  | .rlc => v = d.rotateLeft count ∧ c' = v.getLsbD 0
  | .rrc => v = d.rotateRight count ∧ c' = v.msb
  | .rl => BitVec.ofBool c' ++ v = (BitVec.ofBool c ++ d).rotateLeft count
  | .rr => BitVec.ofBool c' ++ v = (BitVec.ofBool c ++ d).rotateRight count
  | .sla | .sll => v = d <<< count ∧ c' = (count ≤ z.bits && d.getLsbD (z.bits - count))
  | .sra => v = d.sshiftRight count ∧ c' = (d.sshiftRight (count - 1)).getLsbD 0
  | .srl => v = d >>> count ∧ c' = d.getLsbD (count - 1)

/-- The flags of the rotates and shifts; V is open for a long word (45_rotate_shift.md R371). -/
def ShiftFlags (z : Size) (v : BitVec z.bits) (c' : Bool) (f : Flags) : Prop :=
  SignZero z v f ∧ f.h = false ∧ UnlessLong z (f.v = true ↔ EvenOnes z v) ∧ f.n = false ∧ f.c = c'

/-- The carry flag after ANDCF, ORCF, XORCF, LDCF of a bit (43_logic_bit.md R296, R298 to R300). -/
def CarrySpec (op : CarryOp) (c b : Bool) : Bool :=
  match op with
  | .and => c && b
  | .or => c || b
  | .xor => c ^^ b
  | .load => b

/-- Flags that differ in C only. -/
def OnlyCarry (f g : Flags) : Prop :=
  g.s = f.s ∧ g.z = f.z ∧ g.h = f.h ∧ g.v = f.v ∧ g.n = f.n

/-- Flags that differ in V only. -/
def OnlyOverflow (f g : Flags) : Prop :=
  g.s = f.s ∧ g.z = f.z ∧ g.h = f.h ∧ g.n = f.n ∧ g.c = f.c

/-- `v` is `a` with bit `i` made `b`; nothing changes if `a` has no bit `i` (43_logic_bit.md R297,
R306 to R308, R312). -/
def BitPut {n : Nat} (a : BitVec n) (i : Nat) (b : Bool) (v : BitVec n) : Prop :=
  ∀ j, v.getLsbD j = if j = i ∧ i < n then b else a.getLsbD j

/-- The bit RES, SET, CHG write (43_logic_bit.md R306 to R308). -/
def BitSpec (op : BitOp) (b : Bool) : Bool :=
  match op with
  | .res => false
  | .set => true
  | .chg => !b

/-- The flags of BIT and TSET of bit `i` of `v`: S and V open, Z open if there is no such bit
(43_logic_bit.md R305, R309, R312). -/
def TestSpec {n : Nat} (v : BitVec n) (i : Nat) (f g : Flags) : Prop :=
  (i < n → g.z = !(v.getLsbD i)) ∧ g.h = true ∧ g.n = false ∧ g.c = f.c

/-- DIV or DIVS of `a` by `b` gives `v` and the flag `o`: where there is a quotient it is the lower half,
the remainder is the upper half and `o` is clear; else `o` is set and `v` is open
(42_arithmetic.md R244, R245). -/
def DivSpec (signed : Bool) (z : Size) (a : BitVec (doubleSize z).bits) (b : BitVec z.bits)
    (v : BitVec (doubleSize z).bits) (o : Bool) : Prop :=
  let low := v.extractLsb' 0 z.bits
  let high := v.extractLsb' z.bits z.bits
  if signed then
    let q := a.toInt.tdiv b.toInt
    if b = 0 ∨ q < -(2 ^ (z.bits - 1) : Int) ∨ (2 ^ (z.bits - 1) : Int) ≤ q then o = true
    else o = false ∧ low.toInt = q ∧ high.toInt = a.toInt.tmod b.toInt
  else
    if b = 0 ∨ 2 ^ z.bits ≤ a.toNat / b.toNat then o = true
    else o = false ∧ low.toNat = a.toNat / b.toNat ∧ high.toNat = a.toNat % b.toNat

/-- The modulo of MINC and MDEC is one of the powers of two the rules list: 2^1, 2^2 or 2^3 at least,
2^15 at most (42_arithmetic.md R247 to R252). -/
def ModuloListed (k : Step) (num : Nat) : Prop :=
  ∃ e, (match k with | .one => 1 | .two => 2 | .four => 3) ≤ e ∧ e ≤ 15 ∧ num = 2 ^ e

/-- MINC or MDEC of `d` by `k` inside blocks of `num` gives `v` (42_arithmetic.md R247 to R252). -/
def ModuloSpec (down : Bool) (k num : Nat) (d v : BitVec 16) : Prop :=
  (v.toNat : Int) =
    (if down then if d.toNat % num = 0 then (d.toNat : Int) + (num - k) else d.toNat - k
     else if d.toNat % num = num - k then (d.toNat : Int) - (num - k) else d.toNat + k) % 2 ^ 16

/-! ### Block transfer and search (41_block_transfer_search.md) -/

/-- A pointer after an item: up or down by the size. -/
def pointerAfter (down : Bool) (z : Size) (p : BitVec 32) : BitVec 32 :=
  if down then p - sizeWord z else p + sizeWord z

/-- From `s` to `t` one item is moved from (src) to (dst), both pointers are stepped, BC is one less,
H and N are clear, V is as given, and nothing else changes (R201, R203). -/
def MovedItem (s t : State) (down : Bool) (z : Size) (dst src : LongReg) (v : Bool) : Prop :=
  Stored (s.loaded z (s.readLong src)) t z (s.readLong dst) (s.load z (s.readLong src))
    ∧ t.readLong dst = pointerAfter down z (s.readLong dst)
    ∧ t.readLong src = pointerAfter down z (s.readLong src)
    ∧ t.regBC = s.regBC - 1#16 ∧ t.flags = { s.flags with h := false, v := v, n := false }
    ∧ t.pc = s.pc
    ∧ Frame (s.loaded z (s.readLong src)) t [wholeOf dst, wholeOf src, (.word, selBC)]
      (spanOf z.bytes (s.readLong dst))

/-- From `s` to `t` A or WA is compared with (P), the pointer is stepped and then BC is one less (on the
stepped register, where P is XBC); S, Z, H are those of the comparison, V says whether BC is not 0, N is
set, and nothing else changes (R205, R207). -/
def SearchedItem (s t : State) (down : Bool) (z : Size) (p : LongReg) : Prop :=
  t.readLong p
      = (if p = longXBC then
          insertBits (pointerAfter down z (s.readLong p)) 0
            ((pointerAfter down z (s.readLong p)).extractLsb' 0 16 - 1#16)
        else pointerAfter down z (s.readLong p))
    ∧ t.regBC
      = (if p = longXBC then (pointerAfter down z (s.readLong p)).extractLsb' 0 16 else s.regBC) - 1#16
    ∧ SignZero z (s.readSel z selA - s.load z (s.readLong p)) t.flags
    ∧ (t.flags.h = true ↔ (s.readSel z selA).toNat % 16 < (s.load z (s.readLong p)).toNat % 16)
    ∧ (t.flags.v = true ↔ t.regBC ≠ 0#16) ∧ t.flags.n = true ∧ t.flags.c = s.flags.c
    ∧ t.pc = s.pc ∧ Frame (s.loaded z (s.readLong p)) t [wholeOf p, (.word, selBC)] []

/-- The items a block instruction does when it is left alone, `k` at most: it runs again at its own
address while it has more to do (R202, R206). -/
def blockRun (i : Instr) : Nat → State → Result
  | 0, s => .next s
  | k + 1, s =>
    match exec i (s.past 2) with
    | .next t => if t.repeating = none then .next t else blockRun i k t
    | r => r

/-- The address of item `k` of a block whose first item is at `p`, going up or down (R201 to R208). -/
def itemAddr (down : Bool) (z : Size) (p : BitVec 32) (k : Nat) : BitVec 32 :=
  if down then p - BitVec.ofNat 32 (k * z.bytes) else p + BitVec.ofNat 32 (k * z.bytes)

/-- How many items a count in BC stands for: 0 stands for 65536 (R202, R206). -/
def itemCount (bc : BitVec 16) : Nat := if bc = 0#16 then 65536 else bc.toNat

/-! ### Binary-coded decimal (42_arithmetic.md R232) -/

/-- Both digits are 0 to 9. -/
def IsBcd (b : BitVec 8) : Prop := b.toNat / 16 ≤ 9 ∧ b.toNat % 16 ≤ 9

/-- The number that two decimal digits stand for. -/
def bcdValue (b : BitVec 8) : Nat := 10 * (b.toNat / 16) + b.toNat % 16

/-! ### Conditions after a comparison (30_encoding.md R118) -/

/-- Every condition code says of two values what its name says: equality, the unsigned and the signed
orders, overflow and sign of the signed difference (42_arithmetic.md R221, 30_encoding.md R118). -/
def CompareSays (z : Size) (a b : BitVec z.bits) (f : Flags) : Prop :=
  (condHolds .z f = true ↔ a = b) ∧ (condHolds .nz f = true ↔ a ≠ b)
    ∧ (condHolds .c f = true ↔ a.toNat < b.toNat) ∧ (condHolds .nc f = true ↔ b.toNat ≤ a.toNat)
    ∧ (condHolds .ule f = true ↔ a.toNat ≤ b.toNat) ∧ (condHolds .ugt f = true ↔ b.toNat < a.toNat)
    ∧ (condHolds .lt f = true ↔ a.toInt < b.toInt) ∧ (condHolds .ge f = true ↔ b.toInt ≤ a.toInt)
    ∧ (condHolds .le f = true ↔ a.toInt ≤ b.toInt) ∧ (condHolds .gt f = true ↔ b.toInt < a.toInt)
    ∧ (condHolds .ov f = true
        ↔ a.toInt - b.toInt < -(2 ^ (z.bits - 1) : Int) ∨ (2 ^ (z.bits - 1) : Int) ≤ a.toInt - b.toInt)
    ∧ (condHolds .nov f = true
        ↔ -(2 ^ (z.bits - 1) : Int) ≤ a.toInt - b.toInt ∧ a.toInt - b.toInt < (2 ^ (z.bits - 1) : Int))
    ∧ (condHolds .mi f = true ↔ (a - b).toInt < 0) ∧ (condHolds .pl f = true ↔ 0 ≤ (a - b).toInt)
    ∧ condHolds .t f = true ∧ condHolds .f f = false

/-! ### Code that may be prefetched (20_memory.md R85; log entries 6 and 7) -/

/-- Reading instructions in a row from `off` bytes after `start` on comes to the one `off'` bytes after it. -/
inductive ReadsTo (s : State) (start : Addr) : Nat → Nat → Prop where
  | here (off : Nat) : ReadsTo s start off off
  | after {off off' len : Nat} {i : Instr} :
      s.fetchAt (start + BitVec.ofNat 32 off) = .ok (i, len) → ReadsTo s start (off + len) off' →
      ReadsTo s start off off'

/-- A bus address lies in one of the windows of R85 of an instruction at `start`, `len` bytes long: the 12
bytes after its first byte, or the first 12 bytes at the target of a branch instruction that begins among
those. -/
def InPrefetchWindow (s : State) (start : Addr) (len a : Nat) : Prop :=
  (∃ k, 1 ≤ k ∧ k ≤ 12 ∧ a = busAddr (start + BitVec.ofNat 32 k))
    ∨ ∃ off i l w k, ReadsTo s start len off ∧ off ≤ 12
      ∧ s.fetchAt (start + BitVec.ofNat 32 off) = .ok (i, l)
      ∧ s.branchTarget i (start + BitVec.ofNat 32 (off + l)) = some w
      ∧ k < 12 ∧ a = busAddr (w + BitVec.ofNat 32 k)

/-! ### Registers that must not overlap -/

/-- Two register parts share no byte under a register file pointer (10_state.md R22, R23). -/
def Apart (rfp : BitVec 2) (p q : Size × RegSel) : Prop := ∀ k j, ¬(occupies rfp p k j ∧ occupies rfp q k j)

/-! ### The invariant, and quiet states -/

/-- A repeating block instruction of a size that exists (41_block_transfer_search.md R200). -/
def canRepeat (i : Instr) : Prop := isRepeating i = true ∧ i.wellFormed = true

/-- The invariant of the machine between steps: memory is canonical and lists RAM and ROM only, no store is
noted, and only a block instruction can be in the middle of repeating, in a core that is not halted. -/
def State.Inv (s : State) : Prop :=
  s.bus.wf = true ∧ s.written = [] ∧ (∀ i, s.repeating = some i → canRepeat i)
    ∧ (s.halted = true → s.repeating = none)

/-- Nothing is presented, the core is not halted, and no block instruction is repeating: the next step
fetches an instruction. -/
def State.Quiet (s : State) : Prop := s.inputs = [] ∧ s.halted = false ∧ s.repeating = none

/-- A step from the state does not end in a fault. -/
def State.StepSafe (s : State) : Prop := ∀ f, step s ≠ .fault f

end Sys2Proof.Machine
end

