-- ==== Sys2Proof/Certificates/Slice0/Obligations.lean ====
section
/-! DEFINITION. The statements about the machine, for the provers. A statement that an instruction
completes says that exec answers a next state and what that state holds; a register, flag or byte of
memory it does not mention is kept, by the frames of Safety.lean. `s` is the state in which the
instruction runs, with the program counter already past it (10_state.md R38). -/

section

open Sys2Proof Sys2Proof.Machine

/-! ### Encoding and decoding -/

/-- Decoding the encoding of any well-formed instruction, whatever bytes follow it, gives the instruction
and the bytes that follow (30_encoding.md R100 to R125). `EI 7` is no term of its own (log entry 18). The
rows of prefixes are the exception (log entry 16): with bytes after them they are another instruction. -/
def Obligations.DecodeOfEncode : Prop :=
  ∀ (i : Instr) (rest : List Byte), i.wellFormed = true → isLonePrefix i = false →
    decode (encode i ++ rest) = .ok (i, rest)

/-- Whatever bytes decode to a row other than an undefined or dummy code are that instruction's encoding,
which is 1 to 7 bytes long, and the instruction is well formed (30_encoding.md R100, R124, R125; that
reserved bits, unlisted sizes and register codes outside the map do not decode rests on the decisions of
log entry 17, and the codes of the prefix rows on log entry 16). -/
def Obligations.EncodeOfDecode : Prop :=
  ∀ (bs rest : List Byte) (i : Instr), decode bs = .ok (i, rest) → i ∉ undefinedRows →
    bs = encode i ++ rest ∧ i.wellFormed = true ∧ 1 ≤ (encode i).length ∧ (encode i).length ≤ 7

/-- A prefix is no instruction: its row is decoded only when nothing follows it, a fetch never gives it,
and it has no meaning but the fault (30_encoding.md R105, R106, R110; all of it is the model's choice,
log entry 16, DESIGN CHOICE). -/
def Obligations.LonePrefixFaults : Prop :=
  ∀ i : Instr, isLonePrefix i = true →
    (i.wellFormed = true → decode (encode i) = .ok (i, []))
      ∧ (∀ s : State, exec i s = .fault .undefinedInstruction)
      ∧ ∀ (s : State) (a : Addr) (len : Nat), s.fetchAt a ≠ .ok (i, len)

/-- An undefined or dummy code ends the run in Fault(UndefinedInstruction), when it is run and when it is
stepped to; the undefined first bytes are 01H, 04H, 50H to 57H, 1FH, C6H, D6H, E6H, F6H and F7H
(30_encoding.md R122, R123; the fault is decision D5, log entry 17). -/
def Obligations.UndefinedCodesFault : Prop :=
  (∀ i ∈ undefinedRows, ∀ s : State, exec i s = .fault .undefinedInstruction)
    ∧ (∀ (s s' : State) (i : Instr) (len : Nat), s.sample = .goOn s' → s.halted = false →
        s.repeating = none → s.fetchAt s.pc = .ok (i, len) → i ∈ undefinedRows →
        step s = .fault .undefinedInstruction)
    ∧ (∀ (s s' : State) (e : DecodeError), s.sample = .goOn s' → s.halted = false →
        s.repeating = none → s.fetchAt s.pc = .error e → step s = .fault (decodeFault e))
    ∧ ∀ b ∈ [0x01#8, 0x04#8, 0x1F#8, 0x50#8, 0x51#8, 0x52#8, 0x53#8, 0x54#8, 0x55#8, 0x56#8, 0x57#8,
        0xC6#8, 0xD6#8, 0xE6#8, 0xF6#8, 0xF7#8],
        ∀ rest, ∃ i ∈ undefinedRows, decode (b :: rest) = .ok (i, rest)

/-- Instruction words the spec prints, byte by byte, decode to the instructions it names. -/
def Obligations.PrintedWordsDecode : Prop :=
  decode [0xDA#8, 0x8C#8] = .ok (.ldRr .word 4#3 (.short 2#3), [])
    ∧ decode [0xBD#8, 0x33#8, 0x34#8] = .ok (.ldaL 4#3 (.indD8 5#3 0x33#8), [])
    ∧ decode [0xF3#8, 0x13#8, 0x41#8, 0x13#8, 0x34#8] = .ok (.ldarL 4#3 0x1341#16, [])
    ∧ decode [0x85#8, 0x11#8] = .ok (.ldirIxIy .byte, [])
    ∧ decode [0xDC#8, 0x83#8] = .ok (.addRr .word 3#3 (.short 4#3), [])
    ∧ decode [0xF1#8, 0x00#8, 0x01#8, 0x86#8] = .ok (.andcfNumMem 6#3 (.abs16 0x0100#16), [])
    ∧ decode [0xD8#8, 0x2E#8, 0x40#8] = .ok (.ldcCrr .word (.dmac 0) (.short 0#3), [])
    ∧ decode [0xDB#8, 0xE8#8, 0x04#8] = .ok (.rlcNumr .word 4#4 (.short 3#3), [])
    ∧ decode [0x68#8, 0x76#8] = .ok (.jr .t 0x76#8, [])
    ∧ decode [0xC7#8, 0x31#8, 0x03#8, 0x12#8]
        = .ok (.ldrImmB (.ext ⟨⟨.bank 3#2, 0#2⟩, 1#2⟩) 0x12#8, [])
    ∧ decode [0xFD#8] = .ok (.swi 5#3, [])

/-! ### Steps -/

/-- Where nothing is taken at the sampling point and the core is neither halted nor repeating, the step
runs the instruction whose bytes stand at PC, with PC moved past them, and forgets the noted stores
(10_state.md R38, 30_encoding.md R101). A store into a prefetch window ends the step in
Fault(StaleFetchHazard): that is decision D20 and the model's choice of log entries 6 and 7 (20_memory.md
R85). That devices see the fetch of the instruction's own bytes and of no byte after it is log entry 31,
DESIGN CHOICE. -/
def Obligations.StepRunsDecodedInstruction : Prop :=
  ∀ (s s' : State) (i : Instr) (rest : List Byte) (len : Nat), s.sample = .goOn s' → s.halted = false →
    s.repeating = none → decode (s.bus.bytesAt 7 s.pc) = .ok (i, rest) → len = 7 - rest.length →
    step s = (match exec i (s'.fetched len) with
        | .next t => if t.staleFetch s.pc len then .fault .staleFetchHazard else .next t.settled
        | .fault f => .fault f
        | .refused r => .refused r)
      ∧ (s'.fetched len).pc = s.pc + BitVec.ofNat 32 len
      ∧ s'.fetched len = { s'.past len with bus :=
          { s.bus with accesses := readsSeen s.bus.map len s.pc ++ s.bus.accesses } }
      ∧ Frame s' (s'.past len) [] []
      ∧ s' = { s with inputs := s.inputs.tail }

/-- Every step from a state with the invariant that answers a next state answers one with the invariant,
whatever the outside presents and whatever the memory map is; the memory map and every byte that is not
RAM's are kept (20_memory.md R71; that ROM is left by a store, and the canonical form of memory, are the
model's choice, log entries 3 and 31). -/
def Obligations.StepKeepsInvariant : Prop :=
  ∀ s t : State, s.Inv → step s = .next t →
    t.Inv ∧ t.bus.map = s.bus.map ∧ ∀ a, s.kindAt a ≠ .ram → t.byteAt a = s.byteAt a

/-- The invariant holds after reset, over any address space whose memory is canonical (the canonical form
is the model's, log entries 3 and 31). -/
def Obligations.ResetHasInvariant : Prop :=
  State.reset.Inv ∧ ∀ b : Bus, b.wf = true → (State.resetWith b).Inv

/-- What reset leaves of the values the spec gives: XSP, IFF, RFP, halted and PC[23:0], from the three
bytes at FFFF00H to FFFF02H (10_state.md R40, R47, 70_reset_and_hazards.md R460); PC[31:24] and INTNEST
by the spec's decisions D2 and D4 (log entry 2). Memory and the memory map are kept (log entries 29 and
31); where a device supplies the vector, it has seen the three reads. -/
def Obligations.ResetValues : Prop :=
  ∀ b : Bus, (State.resetWith b).xsp = 0x00000000#32 ∧ (State.resetWith b).iff = 0b111#3
    ∧ (State.resetWith b).rfp = 0b00#2 ∧ (State.resetWith b).halted = false
    ∧ (State.resetWith b).sr.extractLsb' 8 8 = 0xF8#8 ∧ (State.resetWith b).intnest = 0x0000#16
    ∧ (State.resetWith b).pc.extractLsb' 24 8 = 0x00#8
    ∧ ((∀ a ∈ [0xFFFF00, 0xFFFF01, 0xFFFF02], (b.map.kindAt a).isMemory = true) →
        (State.resetWith b).pc = 0x00#8 ++ b.mem.read 0xFFFF02 ++ b.mem.read 0xFFFF01 ++ b.mem.read 0xFFFF00
          ∧ (State.resetWith b).bus = b)
    ∧ (State.resetWith b).bus
        = { b with accesses := readsSeen b.map 3 0xFFFF00#32 ++ b.accesses }

/-- Reset is taken at every sampling point, halted or repeating, before anything else; it keeps memory
and gives every register its reset value (60_exceptions.md R431, 70_reset_and_hazards.md R460; the values
the spec does not give are the model's, log entry 1, memory kept is log entry 29, and that devices see
the reset is log entry 31; inside CPIR and CPDR reset is taken by log entry 12). -/
def Obligations.ResetOverridesEverything : Prop :=
  ∀ (s : State) (rest : List Input), s.inputs = .reset :: rest →
    step s = .next
      { State.resetWith { s.bus with accesses := .reset :: s.bus.accesses } with
        inputs := rest, draws := s.draws }

/-! ### Interrupts, software interrupt, return, halt, micro DMA -/

/-- An accepted request is entered in one step of its own (log entry 9): the 6-byte frame of SR and PC,
IFF raised to the level plus 1, INTNEST plus 1, the core not halted, PC from the vector at FFFF00H + V;
nothing else changes. It is taken while halted and between the items of LDIR and LDDR too; a CPIR or CPDR
in the middle of its items is left to BlockSearchComparesOneItem (60_exceptions.md R423, R425 to R427,
R437; 41_block_transfer_search.md R209). That all four vector bytes are read, after the frame is stored,
is the choice of log entry 22 (decisions D26, D37), that V is 4 times a 6-bit number log entry 27
(decision D8), and what ROM or a device makes of the frame log entry 31. -/
def Obligations.InterruptIsEntered : Prop :=
  ∀ (s : State) (level : BitVec 3) (vector : BitVec 6) (rest : List Input),
    s.inputs = .request level vector :: rest → max s.iff.toNat 1 ≤ level.toNat →
    (∀ z R, s.repeating ≠ some (.cpir z R) ∧ s.repeating ≠ some (.cpdr z R)) →
    ∃ t, step s = .next t ∧ VectorTaken true s t (4 * vector.toNat)
      ∧ t.iff.toNat = min (level.toNat + 1) 7
      ∧ t.intnest = s.intnest + 1#16 ∧ t.halted = false
      ∧ t.rfp = s.rfp ∧ t.flags = s.flags ∧ t.altFlags = s.altFlags ∧ t.dmas = s.dmas ∧ t.dmad = s.dmad
      ∧ t.dmac = s.dmac ∧ t.dmam = s.dmam ∧ t.inputs = rest ∧ t.repeating = none

/-- A request below the level max(IFF, 1) is not accepted: the step does what it does when nothing is
presented (60_exceptions.md R423, R437; what is presented as a list with one entry for each sampling
point is log entry 8). -/
def Obligations.MaskedRequestHasNoEffect : Prop :=
  ∀ (s : State) (level : BitVec 3) (vector : BitVec 6) (rest : List Input),
    level.toNat < max s.iff.toNat 1 →
    (∀ z R, s.repeating ≠ some (.cpir z R) ∧ s.repeating ≠ some (.cpdr z R)) →
    step { s with inputs := .request level vector :: rest } = step { s with inputs := .quiet :: rest }

/-- RETI right after an interrupt entry whose frame lies in RAM gives back the interrupted program's PC,
SR, XSP, INTNEST, every register and every byte of memory outside the frame (60_exceptions.md R425, R429;
46_jump_call_return.md R398). -/
def Obligations.RetiUndoesInterruptEntry : Prop :=
  ∀ (s t : State) (level : BitVec 3) (vector : BitVec 6) (rest : List Input),
    s.inputs = .request level vector :: rest → s.accepts level = true → s.unsampled = false →
    RamAt s (spanOf 6 (s.xsp - 6#32)) → step s = .next t →
    ∃ u, exec .reti t = .next u ∧ u.pc = s.pc ∧ u.sr = s.sr ∧ u.intnest = s.intnest
      ∧ u.altFlags = s.altFlags ∧ RegsKept s u [] ∧ MemKept s u (spanOf 6 (s.xsp - 6#32))
      ∧ u.bus.map = s.bus.map
      ∧ u.dmas = s.dmas ∧ u.dmad = s.dmad ∧ u.dmac = s.dmac ∧ u.dmam = s.dmam ∧ u.halted = false

/-- SWI pushes the 6-byte frame and loads PC from the vector at FFFF00H + 4 x num; RFP and the flags keep
their values (44_cpu_control.md R345, 60_exceptions.md R421, R426). That IFF and INTNEST are kept is
decision D6, that all four vector bytes are read D26 (log entry 22), and what ROM or a device makes of
the frame log entry 31. -/
def Obligations.SoftwareInterruptTakesVector : Prop :=
  ∀ (s : State) (n : BitVec 3), ∃ t, exec (.swi n) s = .next t ∧ VectorTaken false s t (4 * n.toNat)
    ∧ t.flags = s.flags ∧ ControlKept s t ∧ ModeKept s t

/-- RETI loads SR's fields from the word at XSP, with the fixed bits of the popped word discarded, and PC
from the long word at XSP + 2; XSP rises by 6 and INTNEST falls by 1 (46_jump_call_return.md R398,
10_state.md R36, R43; that the fixed bits are constants is decision D23, log entry 21). SR is read before
PC, which a device can see (log entry 31). -/
def Obligations.RetiRestores : Prop :=
  ∀ s : State, ∃ t, exec .reti s = .next t
    ∧ (let v : BitVec 16 := s.load .word s.xsp
      t.sr = (v &&& 0x73D7#16) ||| 0x8800#16)
    ∧ t.pc = (s.loaded .word s.xsp).load .long (s.xsp + 2#32)
    ∧ t.xsp = s.xsp + 6#32 ∧ t.intnest = s.intnest - 1#16
    ∧ RegsKept s t [wholeOf longXSP]
    ∧ SpaceKept ((s.loaded .word s.xsp).loaded .long (s.xsp + 2#32)) t []
    ∧ t.dmas = s.dmas ∧ t.dmad = s.dmad ∧ t.dmac = s.dmac ∧ t.dmam = s.dmam ∧ t.altFlags = s.altFlags ∧ t.halted = s.halted
    ∧ t.inputs = s.inputs

/-- HALT sets halted; while halted and with no event taken, a step changes nothing but what the outside
presents (44_cpu_control.md R346, 60_exceptions.md R437); an accepted request is entered with the address
after HALT pushed and a masked one does not end the halt: that is decision D10, log entry 23. -/
def Obligations.HaltWaits : Prop :=
  (∀ s : State, ∃ t, exec .halt s = .next t ∧ t.halted = true ∧ t.pc = s.pc ∧ t.flags = s.flags
      ∧ RegsKept s t [] ∧ SpaceKept s t [] ∧ ControlKept s t ∧ t.iff = s.iff ∧ t.rfp = s.rfp
      ∧ t.altFlags = s.altFlags ∧ t.inputs = s.inputs)
    ∧ (∀ s s' : State, s.halted = true → s.repeating = none → s.sample = .goOn s' →
        step s = .next s' ∧ s' = { s with inputs := s.inputs.tail })
    ∧ ∀ (s : State) (level : BitVec 3) (vector : BitVec 6) (rest : List Input), s.halted = true →
        s.repeating = none → s.inputs = .request level vector :: rest →
        (s.accepts level = true →
          ∃ t, step s = .next t ∧ t.halted = false ∧ t.xsp = s.xsp - 6#32
            ∧ Holds t .long (t.xsp + 2#32) s.pc)
        ∧ (s.accepts level = false → step s = .next { s with inputs := rest })

/-- A micro DMA transfer moves one datum from the address in DMASn to the address in DMADn and steps the
register its mode marks, or in counter mode adds 1 to DMASn; PC, SR, the general registers and the other
control registers are kept (60_exceptions.md R436; the transfer as an input, the step by the datum's
size, and DMACn kept are the model's choice, log entry 10; ROM and devices are log entry 31). -/
def Obligations.MicroDmaTransfers : Prop :=
  ∀ (s : State) (n : Fin 8) (mode : DmaMode) (z : Size) (rest : List Input),
    s.inputs = .microDma n mode z :: rest → s.unsampled = false →
    ∃ t, step s = .next t
      ∧ t.dmas[n] = (match mode with
          | .memToIoInc | .memToMemInc => s.dmas[n] + sizeWord z
          | .memToIoDec | .memToMemDec => s.dmas[n] - sizeWord z
          | .counter => s.dmas[n] + 1#32
          | .ioToMemInc | .ioToMemDec | .ioToIo => s.dmas[n])
      ∧ t.dmad[n] = (match mode with
          | .ioToMemInc => s.dmad[n] + sizeWord z
          | .ioToMemDec => s.dmad[n] - sizeWord z
          | .memToIoInc | .memToIoDec | .memToMemInc | .memToMemDec | .ioToIo | .counter => s.dmad[n])
      ∧ (mode ≠ .counter → Stored (s.loaded z s.dmas[n]) t z s.dmad[n] (s.load z s.dmas[n])
          ∧ SpaceKept (s.loaded z s.dmas[n]) t (spanOf z.bytes s.dmad[n]))
      ∧ (mode = .counter → SpaceKept s t [])
      ∧ (∀ k, k ≠ n → t.dmas[k] = s.dmas[k] ∧ t.dmad[k] = s.dmad[k])
      ∧ t.dmac = s.dmac ∧ t.dmam = s.dmam ∧ t.intnest = s.intnest ∧ t.pc = s.pc ∧ t.sr = s.sr
      ∧ RegsKept s t [] ∧ t.altFlags = s.altFlags ∧ t.halted = s.halted ∧ t.inputs = rest
      ∧ t.repeating = s.repeating

/-- A store into code that may be prefetched ends the run in Fault(StaleFetchHazard), and a step whose
stores all lie outside the windows goes on. The windows are the 12 bytes after the storing instruction's
first byte, and the first 12 bytes at the target of any branch instruction that begins among those bytes
(20_memory.md R85, 70_reset_and_hazards.md R465). It holds for every instruction, fetched or going on
with its next item; `LD (mem),#` into the first window is the case spelled out. The windows and the fault
are decision D20, log entry 6 (DESIGN CHOICE); which codes count as branch instructions, that they are
found by reading in a row, past undefined codes too, and when their targets are computed is log entry 7
(DESIGN CHOICE). -/
def Obligations.StoreIntoPrefetchFaults : Prop :=
  (∀ (s s' t : State) (i : Instr) (len : Nat), s.sample = .goOn s' → s.halted = false →
      s.repeating = none → s.fetchAt s.pc = .ok (i, len) → exec i (s'.fetched len) = .next t →
      ((∃ a ∈ t.written, InPrefetchWindow t s.pc len a) → step s = .fault .staleFetchHazard)
        ∧ ((∀ a ∈ t.written, ¬InPrefetchWindow t s.pc len a) → step s = .next t.settled))
    ∧ (∀ (s s' t : State) (i : Instr), s.sample = .goOn s' → s.halted = false → s.unsampled = false →
        s.repeating = some i → exec i (s'.past 2) = .next t →
        ((∃ a ∈ t.written, InPrefetchWindow t s.pc 2 a) → step s = .fault .staleFetchHazard)
          ∧ ((∀ a ∈ t.written, ¬InPrefetchWindow t s.pc 2 a) → step s = .next t.settled))
    ∧ ∀ (s : State) (m : MemOp) (v : BitVec 8) (len k : Nat), s.inputs = [] → s.halted = false →
        s.repeating = none → s.fetchAt s.pc = .ok (.ldMemImm m v, len) → 1 ≤ k → k ≤ 12 →
        busAddr (s.ea m) = busAddr (s.pc + BitVec.ofNat 32 k) → step s = .fault .staleFetchHazard

/-! ### State -/

/-- A register part written is read back; the parts of a register are the same storage, bytes from the
least significant up; and every byte of every register outside the part written is kept (10_state.md
R22). -/
def Obligations.RegisterPartsShareStorage : Prop :=
  (∀ (s : State) (z : Size) (c : RegSel) (v : BitVec z.bits), c.alignedAt z = true →
      (s.writeSel z c v).readSel z c = v ∧ Frame s (s.writeSel z c v) [(z, c)] []
        ∧ (s.writeSel z c v).flags = s.flags ∧ (s.writeSel z c v).pc = s.pc)
    ∧ ∀ (s : State) (w : LongReg),
        s.readSel .long ⟨w, 0#2⟩ = s.readSel .word ⟨w, 2#2⟩ ++ s.readSel .word ⟨w, 0#2⟩
          ∧ s.readSel .word ⟨w, 0#2⟩ = s.readSel .byte ⟨w, 1#2⟩ ++ s.readSel .byte ⟨w, 0#2⟩
          ∧ s.readSel .word ⟨w, 2#2⟩ = s.readSel .byte ⟨w, 3#2⟩ ++ s.readSel .byte ⟨w, 2#2⟩

/-- Current, previous and absolute names reach the same four banks: with RFP = b the current bank is bank
b and the previous bank is bank b - 1 modulo 4 (for b = 0 by decision D14, log entry 25); the four
unbanked registers do not depend on RFP; LDF selects a bank, and what was the current bank before INCF is
the previous one after it, with no register's contents changed (10_state.md R25, R26, R31;
44_cpu_control.md R351). -/
def Obligations.BankViewsShareRegisters : Prop :=
  (∀ (s : State) (reg : BitVec 2) (v : BitVec 32),
    s.readLong ⟨.cur, reg⟩ = s.readLong ⟨.bank s.rfp, reg⟩
      ∧ s.readLong ⟨.prev, reg⟩ = s.readLong ⟨.bank (s.rfp - 1#2), reg⟩
      ∧ (s.writeLong ⟨.cur, reg⟩ v).readLong ⟨.bank s.rfp, reg⟩ = v
      ∧ (s.writeLong ⟨.prev, reg⟩ v).readLong ⟨.bank (s.rfp - 1#2), reg⟩ = v
      ∧ (∀ (b b' : BitVec 2) (reg' : BitVec 2), (b, reg) ≠ (b', reg') →
          (s.writeLong ⟨.bank b, reg⟩ v).readLong ⟨.bank b', reg'⟩ = s.readLong ⟨.bank b', reg'⟩)
      ∧ (∀ (t : State) (reg' : BitVec 2), t.gpr = (s.writeLong ⟨.unbanked, reg⟩ v).gpr →
          t.readLong ⟨.unbanked, reg'⟩ = if reg' = reg then v else s.readLong ⟨.unbanked, reg'⟩))
    ∧ ∀ (s : State) (n : BitVec 2),
      (∃ t, exec (.ldf n) s = .next t ∧ t = { s with rfp := n }
        ∧ ∀ reg, t.readLong ⟨.cur, reg⟩ = s.readLong ⟨.bank n, reg⟩)
      ∧ (∃ t, exec .incf s = .next t ∧ t.gpr = s.gpr
          ∧ ∀ reg, t.readLong ⟨.prev, reg⟩ = s.readLong ⟨.cur, reg⟩)
      ∧ ∃ t, exec .decf s = .next t ∧ t.gpr = s.gpr
          ∧ ∀ reg, t.readLong ⟨.cur, reg⟩ = s.readLong ⟨.prev, reg⟩

/-- INCF is the one byte 0CH and adds 1 to RFP modulo 4; DECF is the one byte 0DH and subtracts 1 modulo
4; neither changes anything else (44_cpu_control.md R352, R353). -/
def Obligations.BankPointerStepsModuloFour : Prop :=
  decode [0x0C#8] = .ok (.incf, []) ∧ decode [0x0D#8] = .ok (.decf, [])
    ∧ ∀ s : State,
      (∃ t, exec .incf s = .next t ∧ t.rfp.toNat = (s.rfp.toNat + 1) % 4 ∧ t = { s with rfp := t.rfp })
      ∧ ∃ t, exec .decf s = .next t ∧ (t.rfp.toNat : Int) = ((s.rfp.toNat : Int) - 1) % 4
        ∧ t = { s with rfp := t.rfp }

/-- The fixed bits of SR and of F' read as they are drawn, and POP SR, RETI and POP F discard what they
pop at those places (10_state.md R36; decision D23, log entry 21). -/
def Obligations.FixedStatusBits : Prop :=
  ∀ s : State,
    let v : BitVec 16 := s.load .word s.xsp
    let b : BitVec 8 := s.load .byte s.xsp
    (s.sr.getLsbD 15 = true ∧ s.sr.getLsbD 11 = true ∧ s.sr.getLsbD 10 = false
      ∧ s.sr.getLsbD 5 = false ∧ s.sr.getLsbD 3 = false)
    ∧ (s.altFlags.toByte.getLsbD 5 = false ∧ s.altFlags.toByte.getLsbD 3 = false)
    ∧ (∃ t, exec .popSr s = .next t ∧ t.sr = (v &&& 0x73D7#16) ||| 0x8800#16)
    ∧ (∃ t, exec .reti s = .next t ∧ t.sr = (v &&& 0x73D7#16) ||| 0x8800#16)
    ∧ ∃ t, exec .popF s = .next t ∧ t.flags.toByte = b &&& 0xD7#8
        ∧ t.iff = s.iff ∧ t.rfp = s.rfp

/-- SR is IFF at bits 14 to 12, RFP at bits 9 and 8, and F below; EI and DI write IFF only; PUSH SR, the
byte 02H, pushes SR and POP SR pops it, every field of it (10_state.md R29, R32; 44_cpu_control.md R341
to R344; what ROM or a device makes of the store is log entry 31; the fixed bits are decision D23, log
entry 21). -/
def Obligations.StatusRegisterAccess : Prop :=
  ∀ s : State,
    (s.sr.extractLsb' 12 3 = s.iff ∧ s.sr.extractLsb' 8 2 = s.rfp ∧ s.sr.extractLsb' 0 8 = s.flags.toByte
      ∧ Flags.ofByte (s.sr.extractLsb' 0 8) = s.flags)
    ∧ (∀ n : BitVec 3, ∃ t, exec (.ei n) s = .next t ∧ t = { s with iff := n }
        ∧ t.sr = (s.sr &&& 0x8FFF#16) ||| (n.setWidth 16 <<< 12))
    ∧ (∃ t, exec .di s = .next t ∧ t = { s with iff := 7#3 } ∧ t.sr = s.sr ||| 0x7000#16)
    ∧ (decode [0x02#8] = .ok (.pushSr, []) ∧ ∃ t, exec .pushSr s = .next t ∧ Pushed s t .word s.sr s.pc)
    ∧ ∃ t, exec .popSr s = .next t ∧ t.iff = (s.load .word s.xsp).extractLsb' 12 3
        ∧ t.rfp = (s.load .word s.xsp).extractLsb' 8 2
        ∧ t.flags = Flags.ofByte ((s.load .word s.xsp).extractLsb' 0 8) ∧ t.xsp = s.xsp + 2#32
        ∧ t.pc = s.pc ∧ RegsKept s t [wholeOf longXSP]
        ∧ SpaceKept (s.loaded .word s.xsp) t [] ∧ ControlKept s t
        ∧ t.altFlags = s.altFlags ∧ t.halted = s.halted ∧ t.inputs = s.inputs

/-- Memory is little-endian: byte `k` of what is stored or loaded stands at the address plus `k`,
whatever the address's alignment, and a store changes no other byte (20_memory.md R73 to R76). That an
access wraps at 24 bits is decision D1, log entry 20 (R72). The memory map says what an address holds
(R71): RAM takes a store and is read, ROM is read and left as it is by a store, a device or nothing sees
each byte read or written in ascending order and answers a read with Config.deviceByte of what it has
seen (R87); that is the model's choice for the parameter MemoryMap, log entries 3 and 31. -/
def Obligations.MemoryIsLittleEndian : Prop :=
  ∀ (s : State) (z : Size) (a : Addr) (v : BitVec z.bits),
    (∀ k, busAddr (a + BitVec.ofNat 32 k) = (a.toNat + k) % 2 ^ 24)
    ∧ (Stored s (s.store z a v) z a v ∧ Frame s (s.store z a v) [] (spanOf z.bytes a)
        ∧ (s.store z a v).flags = s.flags ∧ (s.store z a v).pc = s.pc)
    ∧ (RamAt s (spanOf z.bytes a) → (s.store z a v).load z a = v)
    ∧ (∀ k, k < z.bytes →
        ((s.load z a).extractLsb' (8 * k) 8
          = if (s.kindAt ((a.toNat + k) % 2 ^ 24)).isMemory then s.byteAt ((a.toNat + k) % 2 ^ 24)
            else Config.deviceByte (readsSeen s.bus.map k a ++ s.bus.accesses) ((a.toNat + k) % 2 ^ 24)))
    ∧ s.loaded z a = { s with bus :=
        { s.bus with accesses := readsSeen s.bus.map z.bytes a ++ s.bus.accesses } }

/-- Effective addresses are 32-bit sums modulo 2^32 with sign-extended displacements and indexes; the
pre-decrement comes before the address is taken and the post-increment after, and the register keeps all
32 bits of it; no other mode changes a register (30_encoding.md R111, R112; 20_memory.md R72). That sums
are modulo 2^32 and the register keeps all 32 bits is decision D1, log entry 20; that the encoded step
counts, not the operand size, is decision D32, log entry 19. -/
def Obligations.EffectiveAddresses : Prop :=
  ∀ s : State,
    (∀ R, s.ea (.ind R) = s.readLong (shortLong R))
    ∧ (∀ (R : BitVec 3) (d : BitVec 8), ((s.ea (.indD8 R d)).toNat : Int)
        = ((s.readLong (shortLong R)).toNat + d.toInt) % 2 ^ 32)
    ∧ (∀ a : BitVec 8, (s.ea (.abs8 a)).toNat = a.toNat)
    ∧ (∀ a : BitVec 16, (s.ea (.abs16 a)).toNat = a.toNat)
    ∧ (∀ a : BitVec 24, (s.ea (.abs24 a)).toNat = a.toNat)
    ∧ (∀ c, s.ea (.reg c) = s.readLong c)
    ∧ (∀ (c : LongReg) (d : BitVec 16), ((s.ea (.regD16 c d)).toNat : Int)
        = ((s.readLong c).toNat + d.toInt) % 2 ^ 32)
    ∧ (∀ (c : LongReg) (e : RegSel), ((s.ea (.regR8 c e)).toNat : Int)
        = ((s.readLong c).toNat + (s.readSel .byte e).toInt) % 2 ^ 32)
    ∧ (∀ (c : LongReg) (e : RegSel), ((s.ea (.regR16 c e)).toNat : Int)
        = ((s.readLong c).toNat + (s.readSel .word e).toInt) % 2 ^ 32)
    ∧ (∀ (c : LongReg) (k : Step), ((s.ea (.preDec c k)).toNat : Int)
          = ((s.readLong c).toNat - (stepAmount k).toNat) % 2 ^ 32
        ∧ (s.advance (.preDec c k)).readLong c = s.ea (.preDec c k))
    ∧ (∀ (c : LongReg) (k : Step), s.ea (.postInc c k) = s.readLong c
        ∧ ((s.advance (.postInc c k)).readLong c).toNat
          = ((s.readLong c).toNat + (stepAmount k).toNat) % 2 ^ 32)
    ∧ ∀ m : MemOp, Frame s (s.advance m) (steppedRegs m) [] ∧ (s.advance m).flags = s.flags
        ∧ (s.advance m).pc = s.pc

/-! ### Load, stack, address, exchange -/

/-- LD to a register from an immediate, a register or memory: the register part takes the value, and
nothing else changes; a value loaded from memory is written after the address register is stepped
(40_load_exchange.md R160 to R165; that order is decision D18, log entry 13). -/
def Obligations.LoadRegister : Prop :=
  ∀ s : State,
    (∀ R i, ∃ t, exec (.ldRImmB R i) s = .next t ∧ WroteReg s t .byte (shortSel .byte R) i s.flags)
    ∧ (∀ R i, ∃ t, exec (.ldRImmW R i) s = .next t ∧ WroteReg s t .word (shortSel .word R) i s.flags)
    ∧ (∀ R i, ∃ t, exec (.ldRImmL R i) s = .next t ∧ WroteReg s t .long (shortSel .long R) i s.flags)
    ∧ (∀ r i, r.alignedAt .byte = true → ∃ t, exec (.ldrImmB r i) s = .next t
        ∧ WroteReg s t .byte (operandSel .byte r) i s.flags)
    ∧ (∀ r i, r.alignedAt .word = true → ∃ t, exec (.ldrImmW r i) s = .next t
        ∧ WroteReg s t .word (operandSel .word r) i s.flags)
    ∧ (∀ r i, r.alignedAt .long = true → ∃ t, exec (.ldrImmL r i) s = .next t
        ∧ WroteReg s t .long (operandSel .long r) i s.flags)
    ∧ (∀ z R r, ∃ t, exec (.ldRr z R r) s = .next t
        ∧ WroteReg s t z (shortSel z R) (s.readReg z r) s.flags)
    ∧ (∀ z r R, r.alignedAt z = true → ∃ t, exec (.ldrR z r R) s = .next t
        ∧ WroteReg s t z (operandSel z r) (s.readShort z R) s.flags)
    ∧ (∀ z r n, r.alignedAt z = true → ∃ t, exec (.ldrNum3 z r n) s = .next t
        ∧ WroteReg s t z (operandSel z r) (BitVec.ofNat z.bits n.toNat) s.flags)
    ∧ ∀ z R m, ∃ t, exec (.ldRMem z R m) s = .next t
        ∧ WroteReg (s.afterRead z m) t z (shortSel z R) (s.load z (s.ea m)) s.flags

/-- LD to memory from a register, an immediate or memory: the location takes the value, and nothing else
changes; a register is read after the address register is stepped (40_load_exchange.md R166 to R170; that
order is decision D18, log entry 13; what ROM or a device makes of the store is log entry 31). -/
def Obligations.StoreToMemory : Prop :=
  ∀ s : State,
    (∀ m R, ∃ t, exec (.ldMemRB m R) s = .next t
        ∧ WroteMem (s.advance m) t .byte (s.ea m) ((s.advance m).readShort .byte R) s.flags)
    ∧ (∀ m R, ∃ t, exec (.ldMemRW m R) s = .next t
        ∧ WroteMem (s.advance m) t .word (s.ea m) ((s.advance m).readShort .word R) s.flags)
    ∧ (∀ m R, ∃ t, exec (.ldMemRL m R) s = .next t
        ∧ WroteMem (s.advance m) t .long (s.ea m) ((s.advance m).readShort .long R) s.flags)
    ∧ (∀ a i, ∃ t, exec (.ldAbs8Imm a i) s = .next t ∧ WroteMem s t .byte (s.ea (.abs8 a)) i s.flags)
    ∧ (∀ a i, ∃ t, exec (.ldwAbs8Imm a i) s = .next t ∧ WroteMem s t .word (s.ea (.abs8 a)) i s.flags)
    ∧ (∀ m i, ∃ t, exec (.ldMemImm m i) s = .next t
        ∧ WroteMem (s.advance m) t .byte (s.ea m) i s.flags)
    ∧ (∀ m i, ∃ t, exec (.ldwMemImm m i) s = .next t
        ∧ WroteMem (s.advance m) t .word (s.ea m) i s.flags)
    ∧ (∀ z a m, ∃ t, exec (.ldAbs16Mem z a m) s = .next t
        ∧ WroteMem (s.afterRead z m) t z (s.ea (.abs16 a)) (s.load z (s.ea m)) s.flags)
    ∧ (∀ m a, ∃ t, exec (.ldMemAbs16 m a) s = .next t
        ∧ WroteMem ((s.advance m).loaded .byte (s.ea (.abs16 a))) t .byte (s.ea m)
          (s.load .byte (s.ea (.abs16 a))) s.flags)
    ∧ ∀ m a, ∃ t, exec (.ldwMemAbs16 m a) s = .next t
        ∧ WroteMem ((s.advance m).loaded .word (s.ea (.abs16 a))) t .word (s.ea m)
          (s.load .word (s.ea (.abs16 a))) s.flags

/-- LDA gives a register the effective address, and LDAR the address of its own fifth byte plus d16; no
memory is read or written (40_load_exchange.md R182, R183; that the destination is written last, after
its own step where it is the address register, is decision D18, log entry 13). `s` of the LDAR clauses is
the state at the instruction's first byte. -/
def Obligations.LoadAddress : Prop :=
  ∀ s : State,
    (∀ R m, ∃ t, exec (.ldaW R m) s = .next t
        ∧ WroteReg (s.advance m) t .word (shortSel .word R) ((s.ea m).extractLsb' 0 16) s.flags)
    ∧ (∀ R m, ∃ t, exec (.ldaL R m) s = .next t
        ∧ WroteReg (s.advance m) t .long (shortSel .long R) (s.ea m) s.flags)
    ∧ (∀ R d, ∃ t, exec (.ldarW R d) (s.past 5) = .next t
        ∧ WroteReg (s.past 5) t .word (shortSel .word R)
          ((s.pc + 4#32 + d.signExtend 32).extractLsb' 0 16) s.flags)
    ∧ ∀ R d, ∃ t, exec (.ldarL R d) (s.past 5) = .next t
        ∧ WroteReg (s.past 5) t .long (shortSel .long R) (s.pc + 4#32 + d.signExtend 32) s.flags

/-- PUSH stores at XSP less the operand's size and leaves XSP there; the source is read before XSP moves
(40_load_exchange.md R171 to R176; that the source is read first is decision D18, log entry 13; what ROM
or a device makes of the store is log entry 31). -/
def Obligations.PushStores : Prop :=
  ∀ s : State,
    (∀ i, ∃ t, exec (.pushImm i) s = .next t ∧ Pushed s t .byte i s.pc)
    ∧ (∀ i, ∃ t, exec (.pushwImm i) s = .next t ∧ Pushed s t .word i s.pc)
    ∧ (∃ t, exec .pushA s = .next t ∧ Pushed s t .byte s.regA s.pc)
    ∧ (∃ t, exec .pushF s = .next t ∧ Pushed s t .byte s.flags.toByte s.pc)
    ∧ (∀ R, ∃ t, exec (.pushRW R) s = .next t ∧ Pushed s t .word (s.readShort .word R) s.pc)
    ∧ (∀ R, ∃ t, exec (.pushRL R) s = .next t ∧ Pushed s t .long (s.readShort .long R) s.pc)
    ∧ (∀ z r, ∃ t, exec (.pushr z r) s = .next t ∧ Pushed s t z (s.readReg z r) s.pc)
    ∧ ∀ z m, ∃ t, exec (.pushMem z m) s = .next t
        ∧ Pushed (s.afterRead z m) t z (s.load z (s.ea m)) s.pc

/-- POP loads from XSP and then raises XSP by the operand's size; the destination, which may be XSP
itself, is written last (40_load_exchange.md R177 to R181). That the destination, XSP among them, is
written last and that POP (mem) takes its address before the pop is decision D18, log entry 13; what ROM
or a device makes of the store is log entry 31. `s.dropTop z` is `s` with the top read and XSP raised. -/
def Obligations.PopLoads : Prop :=
  ∀ s : State,
    (∀ z, (s.dropTop z).xsp = s.xsp + sizeWord z
        ∧ Frame (s.loaded z s.xsp) (s.dropTop z) [wholeOf longXSP] []
        ∧ (s.dropTop z).flags = s.flags ∧ (s.dropTop z).pc = s.pc)
    ∧ (∃ t, exec .popA s = .next t
        ∧ WroteReg (s.dropTop .byte) t .byte selA (s.load .byte s.xsp) s.flags)
    ∧ (∃ t, exec .popF s = .next t ∧ t.xsp = s.xsp + 1#32
        ∧ WroteFlags (s.dropTop .byte) t (Flags.ofByte (s.load .byte s.xsp)))
    ∧ (∀ R, ∃ t, exec (.popRW R) s = .next t
        ∧ WroteReg (s.dropTop .word) t .word (shortSel .word R) (s.load .word s.xsp) s.flags)
    ∧ (∀ R, ∃ t, exec (.popRL R) s = .next t
        ∧ WroteReg (s.dropTop .long) t .long (shortSel .long R) (s.load .long s.xsp) s.flags)
    ∧ (∀ z r, r.alignedAt z = true → ∃ t, exec (.popr z r) s = .next t
        ∧ WroteReg (s.dropTop z) t z (operandSel z r) (s.load z s.xsp) s.flags)
    ∧ (∀ m, ∃ t, exec (.popMem m) s = .next t ∧ WroteMem ((s.advance m).dropTop .byte) t .byte (s.ea m)
          (s.load .byte (s.advance m).xsp) s.flags)
    ∧ ∀ m, ∃ t, exec (.popwMem m) s = .next t ∧ WroteMem ((s.advance m).dropTop .word) t .word (s.ea m)
          (s.load .word (s.advance m).xsp) s.flags

/-- PUSH r into RAM and then POP r gives back every register, XSP among them, and changes memory only in
the slot below XSP; r may be XSP or a part of it (40_load_exchange.md R174, R180). For XSP or a part of
it this rests on the order of decision D18, log entry 13. -/
def Obligations.PopUndoesPush : Prop :=
  ∀ (s : State) (z : Size) (r : RegOp), r.alignedAt z = true →
    RamAt s (spanOf z.bytes (s.xsp - sizeWord z)) →
    ∃ t u, exec (.pushr z r) s = .next t ∧ exec (.popr z r) t = .next u
      ∧ Frame s u [] (spanOf z.bytes (s.xsp - sizeWord z)) ∧ u.flags = s.flags ∧ u.pc = s.pc

/-- EX exchanges F and F' (the byte 16H), two registers, or a register and memory, each side taking what
the other held (40_load_exchange.md R184 to R186). That EX (mem),R reads R after the address register is
stepped is decision D18, log entry 13; what ROM or a device makes of the store is log entry 31. -/
def Obligations.ExchangeSwaps : Prop :=
  ∀ s : State,
    (decode [0x16#8] = .ok (.exFF, [])
      ∧ ∃ t, exec .exFF s = .next t ∧ t = { s with flags := s.altFlags, altFlags := s.flags })
    ∧ (∀ z R r, encode (.exRr z R r) = regBytes z r ++ [0b10111#5 ++ R])
    ∧ (∀ z R r, r.alignedAt z = true → ∃ t, exec (.exRr z R r) s = .next t
        ∧ t.readShort z R = s.readReg z r ∧ t.readReg z r = s.readShort z R ∧ t.flags = s.flags
        ∧ t.pc = s.pc ∧ Frame s t [(z, shortSel z R), (z, operandSel z r)] [])
    ∧ ∀ z m R, ∃ t, exec (.exMemR z m R) s = .next t
        ∧ t.readShort z R = s.load z (s.ea m)
        ∧ Stored (s.afterRead z m) t z (s.ea m) ((s.advance m).readShort z R) ∧ t.flags = s.flags
        ∧ t.pc = s.pc ∧ Frame (s.afterRead z m) t [(z, shortSel z R)] (spanOf z.bytes (s.ea m))

/-! ### Block transfer and search -/

/-- LDI and LDD move one item, step both pointers, count BC down, and set V exactly if BC is not 0 then;
BC = 0 before counts to FFFFH. One item of LDIR or LDDR does the same with V cleared; if BC is not 0 then
the instruction goes on at its own address, 2 bytes back, in the next step, and runs there without a new
fetch unless an event is taken in between (41_block_transfer_search.md R201 to R204, R209). That an
instruction of several items does one in each step, with its flags written each time, is decision D25 and
log entry 11; what ROM or a device makes of the store is log entry 31. -/
def Obligations.BlockTransferMovesItems : Prop :=
  (∀ (s : State) (down index : Bool) (z : Size),
    (∃ t, exec (formTransfer down index z) s = .next t
      ∧ MovedItem s t down z (blockPointers index).1 (blockPointers index).2 (s.regBC != 1#16))
    ∧ ∃ t, MovedItem s t down z (blockPointers index).1 (blockPointers index).2 false
      ∧ exec (formTransferRepeat down index z) s
          = .next (if s.regBC = 1#16 then t
              else { t with pc := s.pc - 2#32, repeating := some (formTransferRepeat down index z) }))
    ∧ ∀ (s s' t : State) (i : Instr), s.repeating = some i → s.halted = false → s.sample = .goOn s' →
        s.unsampled = false → exec i (s'.past 2) = .next t → t.staleFetch s.pc 2 = false →
        step s = .next t.settled

/-- LDIR or LDDR left alone copies the whole block: with n = BC (65536 for 0), item k of the destination
ends up holding item k of the source for every k below n, items going up for LDIR and down for LDDR; both
pointers end n items on, BC ends at 0, H, V, N at 0, and no other byte of memory changes. It is so where
the destination is RAM, the source is RAM or ROM, and no byte of an item's source is stored to before
that item is read (41_block_transfer_search.md R202, R204; one item in each step is log entry 11). -/
def Obligations.LdirCopiesBlock : Prop :=
  ∀ (s : State) (down index : Bool) (z : Size), z ≠ .long →
    let dst (k : Nat) : Addr := itemAddr down z (s.readLong (blockPointers index).1) k
    let src (k : Nat) : Addr := itemAddr down z (s.readLong (blockPointers index).2) k
    let count := itemCount s.regBC
    (∀ k, k < count → RamAt s (spanOf z.bytes (dst k)) ∧ MemoryAt s (spanOf z.bytes (src k))) →
    (∀ j k, j < k → k < count → ∀ a ∈ spanOf z.bytes (dst j), a ∉ spanOf z.bytes (src k)) →
    ∃ t, blockRun (formTransferRepeat down index z) count s = .next t
      ∧ (t.repeating = none ∧ t.regBC = 0#16)
      ∧ (∀ k i, k < count → i < z.bytes → t.byteAt (busAddr (dst k + BitVec.ofNat 32 i))
          = s.byteAt (busAddr (src k + BitVec.ofNat 32 i)))
      ∧ (∀ a, (∀ k, k < count → a ∉ spanOf z.bytes (dst k)) → t.byteAt a = s.byteAt a)
      ∧ t.readLong (blockPointers index).1 = dst count ∧ t.readLong (blockPointers index).2 = src count
      ∧ t.flags = { s.flags with h := false, v := false, n := false } ∧ t.pc = s.pc + 2#32
      ∧ t.bus.map = s.bus.map ∧ t.bus.accesses = s.bus.accesses

/-- CPI and CPD compare A or WA with one item, step the pointer, count BC down, and write neither
operand; one item of CPIR or CPDR does the same and goes on at its own address until Z is 1 or BC is 0
(41_block_transfer_search.md R205 to R208). Where the pointer is XBC it is stepped first and then counted
down in the same register: decision D18, log entry 13. In the middle of CPIR and CPDR nothing is sampled:
whatever is presented but reset, the next item runs and what is presented stays as it is (R209); that is
decision D25, and one item in each step and reset as the exception are log entry 12. -/
def Obligations.BlockSearchComparesOneItem : Prop :=
  (∀ (s : State) (down : Bool) (z : Size) (R : BitVec 3), z ≠ .long →
    (∃ t, exec (formSearch down z R) s = .next t ∧ SearchedItem s t down z (shortLong R))
    ∧ ∃ t, SearchedItem s t down z (shortLong R)
        ∧ exec (formSearchRepeat down z R) s
          = .next (if t.flags.z = true ∨ t.regBC = 0#16 then t
              else { t with pc := s.pc - 2#32, repeating := some (formSearchRepeat down z R) }))
    ∧ ∀ (s : State) (down : Bool) (z : Size) (R : BitVec 3), z ≠ .long →
        s.repeating = some (formSearchRepeat down z R) → s.inputs.head? ≠ some .reset →
        ∃ t, exec (formSearchRepeat down z R) (s.past 2) = .next t ∧ step s = .next t.settled
          ∧ t.inputs = s.inputs

/-- CPIR and CPDR search to the first match: with n = BC (65536 for 0), if item k is the first to equal A
or WA, the search ends with Z = 1, the pointer one item past it and BC less k + 1; if none of the n items
does, it ends with Z = 0, the pointer past all of them and BC = 0; either way V = 1 exactly if BC is not
0, and memory is kept. It is so where the items lie in RAM or ROM. The pointers XWA, which is compared,
and XBC, which counts, are not covered here; BlockSearchComparesOneItem says what one item does with them
(41_block_transfer_search.md R206, R208; one item in each step is log entry 12). -/
def Obligations.SearchFindsFirstMatch : Prop :=
  ∀ (s : State) (down : Bool) (z : Size) (R : BitVec 3), z ≠ .long → 2 ≤ R.toNat →
    let at' (k : Nat) : Addr := itemAddr down z (s.readLong (shortLong R)) k
    let item (k : Nat) : BitVec z.bits := s.load z (at' k)
    let a := s.readSel z selA
    let count := itemCount s.regBC
    (∀ k, k < count → MemoryAt s (spanOf z.bytes (at' k))) →
    ∃ t, blockRun (formSearchRepeat down z R) count s = .next t ∧ t.repeating = none
      ∧ (∀ k, k < count → item k = a → (∀ j, j < k → item j ≠ a) →
          t.flags.z = true ∧ t.readLong (shortLong R) = at' (k + 1)
            ∧ t.regBC = s.regBC - BitVec.ofNat 16 (k + 1))
      ∧ ((∀ k, k < count → item k ≠ a) →
          t.flags.z = false ∧ t.readLong (shortLong R) = at' count ∧ t.regBC = 0#16)
      ∧ (t.flags.v = true ↔ t.regBC ≠ 0#16) ∧ t.flags.n = true ∧ t.flags.c = s.flags.c
      ∧ t.bus = s.bus ∧ t.pc = s.pc + 2#32

/-! ### Arithmetic and logic -/

/-- ADD, ADC, SUB, SBC, AND, XOR, OR of a register and a register or an immediate, and CP, which writes F
only: the result and the flags are those of the operation on the two operands and the carry
(42_arithmetic.md R220 to R226, R234; 43_logic_bit.md R290 to R293; the formula of V is two's-complement
overflow, log entry 14). -/
def Obligations.AluOnRegisters : Prop :=
  ∀ (s : State) (op : AluOp) (r : RegOp),
    (∀ z R, ∃ t v f, exec (formRr op z R r) s = .next t
        ∧ AluSpec op z (s.readShort z R) (s.readReg z r) s.flags.c v f
        ∧ WroteReg s t z (shortSel z R) (AluStored op z (s.readShort z R) v) f)
    ∧ (∀ i, r.alignedAt .byte = true → ∃ t v f, exec (formImmB op r i) s = .next t
        ∧ AluSpec op .byte (s.readReg .byte r) i s.flags.c v f
        ∧ WroteReg s t .byte (operandSel .byte r) (AluStored op .byte (s.readReg .byte r) v) f)
    ∧ (∀ i, r.alignedAt .word = true → ∃ t v f, exec (formImmW op r i) s = .next t
        ∧ AluSpec op .word (s.readReg .word r) i s.flags.c v f
        ∧ WroteReg s t .word (operandSel .word r) (AluStored op .word (s.readReg .word r) v) f)
    ∧ (∀ i, r.alignedAt .long = true → ∃ t v f, exec (formImmL op r i) s = .next t
        ∧ AluSpec op .long (s.readReg .long r) i s.flags.c v f
        ∧ WroteReg s t .long (operandSel .long r) (AluStored op .long (s.readReg .long r) v) f)
    ∧ ∀ z n, ∃ t v f, exec (.cprNum3 z r n) s = .next t
        ∧ SubSpec z (s.readReg z r) (BitVec.ofNat z.bits n.toNat) false v f ∧ WroteFlags s t f

/-- The same operations of a register and a memory operand (42_arithmetic.md R234). That the register is
read after the address register is stepped is decision D18, log entry 13; the formula of V is log entry
14. -/
def Obligations.AluFromMemory : Prop :=
  ∀ (s : State) (op : AluOp) (z : Size) (R : BitVec 3) (m : MemOp),
    ∃ t v f, exec (formRMem op z R m) s = .next t
      ∧ AluSpec op z ((s.advance m).readShort z R) (s.load z (s.ea m)) s.flags.c v f
      ∧ WroteReg (s.afterRead z m) t z (shortSel z R) (AluStored op z ((s.advance m).readShort z R) v) f

/-- The same operations with a memory location as first operand and destination, and a register or an
immediate as second; CP stores nothing (42_arithmetic.md R234). That the second operand is read after the
address register is stepped is decision D18, log entry 13; the formula of V is log entry 14; what ROM or
a device makes of the store is log entry 31. -/
def Obligations.AluToMemory : Prop :=
  ∀ (s : State) (op : AluOp) (m : MemOp),
    (∀ z R, ∃ t v f, exec (formMemR op z m R) s = .next t
        ∧ AluSpec op z (s.load z (s.ea m)) ((s.advance m).readShort z R) s.flags.c v f
        ∧ (if op = .cp then WroteFlags (s.afterRead z m) t f
            else WroteMem (s.afterRead z m) t z (s.ea m) v f))
    ∧ (∀ i, ∃ t v f, exec (formMemImmB op m i) s = .next t
        ∧ AluSpec op .byte (s.load .byte (s.ea m)) i s.flags.c v f
        ∧ (if op = .cp then WroteFlags (s.afterRead .byte m) t f
            else WroteMem (s.afterRead .byte m) t .byte (s.ea m) v f))
    ∧ ∀ i, ∃ t v f, exec (formMemImmW op m i) s = .next t
        ∧ AluSpec op .word (s.load .word (s.ea m)) i s.flags.c v f
        ∧ (if op = .cp then WroteFlags (s.afterRead .word m) t f
            else WroteMem (s.afterRead .word m) t .word (s.ea m) v f)

/-- After CP, in each of its forms, all sixteen condition codes say what their names say of the two
values: equality, the unsigned and the signed orders, and overflow and sign of the difference
(42_arithmetic.md R221, R226; 30_encoding.md R118). The signed conditions and OV rest on the overflow
flag being two's-complement overflow, which the spec takes from general knowledge (log entry 14); in the
memory forms the register is read after the address register is stepped (decision D18, log entry 13). -/
def Obligations.ConditionsAfterCompare : Prop :=
  ∀ s : State,
    (∀ z R r, ∃ t, exec (.cpRr z R r) s = .next t ∧ CompareSays z (s.readShort z R) (s.readReg z r) t.flags)
    ∧ (∀ r i, ∃ t, exec (.cprImmB r i) s = .next t ∧ CompareSays .byte (s.readReg .byte r) i t.flags)
    ∧ (∀ r i, ∃ t, exec (.cprImmW r i) s = .next t ∧ CompareSays .word (s.readReg .word r) i t.flags)
    ∧ (∀ r i, ∃ t, exec (.cprImmL r i) s = .next t ∧ CompareSays .long (s.readReg .long r) i t.flags)
    ∧ (∀ z r n, ∃ t, exec (.cprNum3 z r n) s = .next t
        ∧ CompareSays z (s.readReg z r) (BitVec.ofNat z.bits n.toNat) t.flags)
    ∧ (∀ z R m, ∃ t, exec (.cpRMem z R m) s = .next t
        ∧ CompareSays z ((s.advance m).readShort z R) (s.load z (s.ea m)) t.flags)
    ∧ (∀ z m R, ∃ t, exec (.cpMemR z m R) s = .next t
        ∧ CompareSays z (s.load z (s.ea m)) ((s.advance m).readShort z R) t.flags)
    ∧ (∀ m i, ∃ t, exec (.cpMemImmB m i) s = .next t
        ∧ CompareSays .byte (s.load .byte (s.ea m)) i t.flags)
    ∧ ∀ m i, ∃ t, exec (.cpMemImmW m i) s = .next t
        ∧ CompareSays .word (s.load .word (s.ea m)) i t.flags

/-- INC and DEC add or subtract 1 to 8: flags but C are those of the addition or subtraction for a byte
register and for memory, and no flag changes for a word or long word register (42_arithmetic.md R227,
R228; the formula of V is log entry 14; what ROM or a device makes of the store is log entry 31). -/
def Obligations.IncrementAndDecrement : Prop :=
  ∀ (s : State) (n : BitVec 3),
    (∀ z r, r.alignedAt z = true → ∃ t v f, exec (.incNumr z n r) s = .next t
        ∧ AddSpec z (s.readReg z r) (BitVec.ofNat z.bits (incAmount n)) false v f
        ∧ WroteReg s t z (operandSel z r) v
          (if z = .byte then { f with c := s.flags.c } else s.flags))
    ∧ (∀ z r, r.alignedAt z = true → ∃ t v f, exec (.decNumr z n r) s = .next t
        ∧ SubSpec z (s.readReg z r) (BitVec.ofNat z.bits (incAmount n)) false v f
        ∧ WroteReg s t z (operandSel z r) v
          (if z = .byte then { f with c := s.flags.c } else s.flags))
    ∧ (∀ z m, z ≠ .long → ∃ t v f, exec (.incNumMem z n m) s = .next t
        ∧ AddSpec z (s.load z (s.ea m)) (BitVec.ofNat z.bits (incAmount n)) false v f
        ∧ WroteMem (s.afterRead z m) t z (s.ea m) v { f with c := s.flags.c })
    ∧ (∀ z m, z ≠ .long → ∃ t v f, exec (.decNumMem z n m) s = .next t
        ∧ SubSpec z (s.load z (s.ea m)) (BitVec.ofNat z.bits (incAmount n)) false v f
        ∧ WroteMem (s.afterRead z m) t z (s.ea m) v { f with c := s.flags.c })
    ∧ (incAmount n % 8 = n.toNat ∧ 1 ≤ incAmount n ∧ incAmount n ≤ 8)

/-- NEG subtracts from 0; CPL inverts every bit and sets H and N; EXTZ and EXTS clear the upper half or
fill it with the lower half's sign; PAA makes an odd value even; MIRR reverses the bits; SCC writes 1 or
0 as the condition says. Flags not named are kept (42_arithmetic.md R229 to R231, R233; 43_logic_bit.md
R294; 40_load_exchange.md R187; 44_cpu_control.md R354; the formula of V in NEG is log entry 14). -/
def Obligations.OneRegisterOperations : Prop :=
  ∀ (s : State) (z : Size) (r : RegOp), r.alignedAt z = true →
    (∃ t v f, exec (.neg z r) s = .next t ∧ SubSpec z 0 (s.readReg z r) false v f
        ∧ WroteReg s t z (operandSel z r) v f)
    ∧ (∃ t v, exec (.cpl z r) s = .next t
        ∧ (∀ i, i < z.bits → v.getLsbD i = !(s.readReg z r).getLsbD i)
        ∧ WroteReg s t z (operandSel z r) v { s.flags with h := true, n := true })
    ∧ (z ≠ .byte → ∃ t v, exec (.extz z r) s = .next t
        ∧ v.toNat = (s.readReg z r).toNat % 2 ^ (z.bits / 2)
        ∧ WroteReg s t z (operandSel z r) v s.flags)
    ∧ (z ≠ .byte → ∃ t v, exec (.exts z r) s = .next t
        ∧ v.toInt = ((s.readReg z r).extractLsb' 0 (z.bits / 2)).toInt
        ∧ WroteReg s t z (operandSel z r) v s.flags)
    ∧ (z ≠ .byte → ∃ t v, exec (.paa z r) s = .next t
        ∧ v.toNat = (2 * (((s.readReg z r).toNat + 1) / 2)) % 2 ^ z.bits
        ∧ WroteReg s t z (operandSel z r) v s.flags)
    ∧ (z = .word → ∃ t v, exec (.mirr r) s = .next t
        ∧ (∀ i, i < 16 → v.getLsbD i = (s.readReg .word r).getLsbD (15 - i))
        ∧ WroteReg s t .word (operandSel .word r) v s.flags)
    ∧ ∀ cc, ∃ t v, exec (.scc z cc r) s = .next t
        ∧ v.toNat = (if condHolds cc s.flags then 1 else 0)
        ∧ WroteReg s t z (operandSel z r) v s.flags

/-- DAA adds what the table's row gives, where a row covers the value and the flags, and this is the same
as adding 06H, 60H, FAH or A0H by the digits and the flags; N is kept. Where no row does, the value and
the other flags are open (42_arithmetic.md R232; log entry 24). -/
def Obligations.DecimalAdjust : Prop :=
  ∀ (s : State) (r : RegOp),
    let d : BitVec 8 := s.readReg .byte r
    ∃ (t : State) (v : BitVec 8) (f : Flags), exec (.daa r) s = .next t
      ∧ WroteReg s t .byte (operandSel .byte r) v f
      ∧ f.n = s.flags.n
      ∧ ∀ row ∈ daaTable, daaCovers s.flags d row = true →
          v = d + row.added ∧ f.c = row.carry ∧ SignZero .byte v f ∧ (f.v = true ↔ EvenOnes .byte v)
          ∧ (f.h = true ↔ 15 < d.toNat % 16 + row.added.toNat % 16)
          ∧ (s.flags.n = false →
              v = d + (if s.flags.h = true ∨ 9 < d.toNat % 16 then 0x06#8 else 0x00#8)
                  + (if s.flags.c = true ∨ 0x99 < d.toNat then 0x60#8 else 0x00#8)
              ∧ (f.c = true ↔ s.flags.c = true ∨ 0x99 < d.toNat))
          ∧ (s.flags.n = true →
              v = d + (if s.flags.h = true then 0xFA#8 else 0x00#8)
                  + (if s.flags.c = true then 0xA0#8 else 0x00#8)
              ∧ f.c = s.flags.c)

/-- ADD or ADC of two two-digit decimal bytes and then DAA gives the decimal sum with the decimal carry
in C; SUB or SBC and then DAA the decimal difference with the decimal borrow in C (42_arithmetic.md R222
to R225, R232). -/
def Obligations.DecimalArithmetic : Prop :=
  ∀ (s : State) (R : BitVec 3) (r : RegOp), IsBcd (s.readShort .byte R) → IsBcd (s.readReg .byte r) →
    let a := bcdValue (s.readShort .byte R)
    let b := bcdValue (s.readReg .byte r)
    let c := s.flags.c.toNat
    ∀ op ∈ [AluOp.add, AluOp.adc, AluOp.sub, AluOp.sbc],
      ∃ t u, exec (formRr op .byte R r) s = .next t ∧ exec (.daa (.short R)) t = .next u
        ∧ IsBcd (u.readShort .byte R)
        ∧ (op = .add → bcdValue (u.readShort .byte R) = (a + b) % 100 ∧ (u.flags.c = true ↔ 100 ≤ a + b))
        ∧ (op = .adc → bcdValue (u.readShort .byte R) = (a + b + c) % 100
            ∧ (u.flags.c = true ↔ 100 ≤ a + b + c))
        ∧ (op = .sub → bcdValue (u.readShort .byte R) = (a + 100 - b) % 100
            ∧ (u.flags.c = true ↔ a < b))
        ∧ (op = .sbc → bcdValue (u.readShort .byte R) = (a + 100 - b - c) % 100
            ∧ (u.flags.c = true ↔ a < b + c))

/-- MUL and MULS give the register of twice the size the product of its lower half and the source, as
unsigned or signed numbers, which always fits; no flag changes; the opcodes are 40H + R, 08H and 48H + R,
09H (42_arithmetic.md R240 to R243). That the memory form reads its destination after the address
register is stepped is decision D18, log entry 13; the signed reading of MULS is two's complement, log
entry 14. -/
def Obligations.MultiplyGivesProduct : Prop :=
  ∀ (s : State) (signed : Bool) (z : Size),
    let product (a b : BitVec z.bits) (v : BitVec (doubleSize z).bits) : Prop :=
      if signed then v.toInt = a.toInt * b.toInt else v.toNat = a.toNat * b.toNat
    (∀ R r m i j, encode (formMul signed z R r)
          = regBytes z r ++ [(if signed then 0b01001#5 else 0b01000#5) ++ R]
        ∧ encode (formMulMem signed z R m)
          = memBytes (some z) m ++ [(if signed then 0b01001#5 else 0b01000#5) ++ R]
        ∧ encode (formMulImm signed r (.inl i)) = regBytes .byte r ++ [if signed then 0x09#8 else 0x08#8, i]
        ∧ encode (formMulImm signed r (.inr j))
          = regBytes .word r ++ [if signed then 0x09#8 else 0x08#8] ++ le16 j)
    ∧ (∀ R r, (formMul signed z R r).wellFormed = true →
      ∃ t v, exec (formMul signed z R r) s = .next t
        ∧ product (s.readShort z R) (s.readReg z r) v
        ∧ WroteReg s t (doubleSize z) (shortSel z R) v s.flags)
    ∧ (∀ R m, (formMulMem signed z R m).wellFormed = true →
      ∃ t v, exec (formMulMem signed z R m) s = .next t
        ∧ product ((s.advance m).readShort z R) (s.load z (s.ea m)) v
        ∧ WroteReg (s.afterRead z m) t (doubleSize z) (shortSel z R) v s.flags)
    ∧ (∀ r i, z = .byte → (formMulImm signed r (.inl i)).wellFormed = true →
      ∃ t v, exec (formMulImm signed r (.inl i)) s = .next t
        ∧ product (s.readReg z r) (i.setWidth z.bits) v
        ∧ WroteReg s t (doubleSize z) (operandSel z r) v s.flags)
    ∧ ∀ r i, z = .word → (formMulImm signed r (.inr i)).wellFormed = true →
      ∃ t v, exec (formMulImm signed r (.inr i)) s = .next t
        ∧ product (s.readReg z r) (i.setWidth z.bits) v
        ∧ WroteReg s t (doubleSize z) (operandSel z r) v s.flags

/-- DIV and DIVS give the register of twice the size the quotient in its lower half and the remainder in
its upper half, with V clear; a divisor of 0 or a quotient that does not fit sets V and leaves the
register open; the other flags are kept, and nothing traps (42_arithmetic.md R240, R241, R244, R245). The
open register is decision D12, log entry 24; that the memory form reads its dividend after the address
register is stepped is decision D18, log entry 13; the signed reading of DIVS is two's complement, log
entry 14. -/
def Obligations.DivideGivesQuotientAndRemainder : Prop :=
  ∀ (s : State) (signed : Bool) (z : Size),
    (∀ R r, (formDiv signed z R r).wellFormed = true →
      ∃ t v o, exec (formDiv signed z R r) s = .next t
        ∧ DivSpec signed z (s.readSel (doubleSize z) (shortSel z R)) (s.readReg z r) v o
        ∧ WroteReg s t (doubleSize z) (shortSel z R) v { s.flags with v := o })
    ∧ (∀ R m, (formDivMem signed z R m).wellFormed = true →
      ∃ t v o, exec (formDivMem signed z R m) s = .next t
        ∧ DivSpec signed z ((s.advance m).readSel (doubleSize z) (shortSel z R)) (s.load z (s.ea m)) v o
        ∧ WroteReg (s.afterRead z m) t (doubleSize z) (shortSel z R) v { s.flags with v := o })
    ∧ (∀ r i, z = .byte → (formDivImm signed r (.inl i)).wellFormed = true →
      ∃ t v o, exec (formDivImm signed r (.inl i)) s = .next t
        ∧ DivSpec signed z (s.readSel (doubleSize z) (operandSel z r)) (i.setWidth z.bits) v o
        ∧ WroteReg s t (doubleSize z) (operandSel z r) v { s.flags with v := o })
    ∧ ∀ r i, z = .word → (formDivImm signed r (.inr i)).wellFormed = true →
      ∃ t v o, exec (formDivImm signed r (.inr i)) s = .next t
        ∧ DivSpec signed z (s.readSel (doubleSize z) (operandSel z r)) (i.setWidth z.bits) v o
        ∧ WroteReg s t (doubleSize z) (operandSel z r) v { s.flags with v := o }

/-- MULA adds to a long word register the signed product of the words at (XDE) and (XHL), modulo 2^32,
and then lowers XHL by 2, on the sum itself where the register is XHL; S, Z and V are those of the sum,
with V set exactly if the exact sum needs more than 32 bits; H, N, C are kept (42_arithmetic.md R246). V
as two's-complement overflow of the exact sum is log entry 14; the order where the register is XHL is
decision D18, log entry 13. -/
def Obligations.MultiplyAccumulate : Prop :=
  ∀ (s : State) (r : RegOp), (Instr.mula r).wellFormed = true →
    let x := s.load .word (s.readLong longXDE)
    let y := (s.loaded .word (s.readLong longXDE)).load .word (s.readLong longXHL)
    let sum : Int := (s.readReg .long r).toInt + BitVec.toInt x * BitVec.toInt y
    ∃ (t : State) (v : BitVec 32), exec (.mula r) s = .next t ∧ v.toInt = sum.bmod (2 ^ 32)
      ∧ (if gprIndex s.rfp (operandSel .long r).whole = gprIndex s.rfp longXHL
          then t.readLong longXHL = v - 2#32
          else t.readReg .long r = v ∧ t.readLong longXHL = s.readLong longXHL - 2#32)
      ∧ SignZero .long v t.flags
      ∧ (t.flags.v = true ↔ sum < -(2 ^ 31 : Int) ∨ (2 ^ 31 : Int) ≤ sum)
      ∧ t.flags.h = s.flags.h ∧ t.flags.n = s.flags.n ∧ t.flags.c = s.flags.c ∧ t.pc = s.pc
      ∧ Frame ((s.loaded .word (s.readLong longXDE)).loaded .word (s.readLong longXHL)) t
        [(.long, operandSel .long r), wholeOf longXHL] []

/-- MINC and MDEC step a word register by 1, 2 or 4 and wrap it inside its block of num = 2^n bytes, so
that a register that is a multiple of the step stays in its block; where num is no such power the
register is open; no flag changes; the second byte is 38H to 3AH or 3CH to 3EH and then # - k
(42_arithmetic.md R235, R247 to R252). The open register is decision D30, log entry 24; staying in the
block is a consequence that no rule states. -/
def Obligations.ModuloStepsStayInBlock : Prop :=
  ∀ (s : State) (down : Bool) (k : Step) (i : BitVec 16) (r : RegOp), r.alignedAt .word = true →
    let d := s.readReg .word r
    let num := i.toNat + (stepAmount k).toNat
    encode (formModulo down k i r) = regBytes .word r ++ [(match down, k with
        | false, .one => 0x38#8 | false, .two => 0x39#8 | false, .four => 0x3A#8
        | true, .one => 0x3C#8 | true, .two => 0x3D#8 | true, .four => 0x3E#8)] ++ le16 i
    ∧ ∃ t v, exec (formModulo down k i r) s = .next t ∧ WroteReg s t .word (operandSel .word r) v s.flags
      ∧ (ModuloListed k num → ModuloSpec down (stepAmount k).toNat num d v)
      ∧ (ModuloListed k num → d.toNat % (stepAmount k).toNat = 0 →
          v.toNat / num = d.toNat / num ∧ v.toNat % (stepAmount k).toNat = 0)

/-! ### Bits -/

/-- ANDCF, ORCF, XORCF, LDCF combine C with bit `num` of a register or of a byte of memory and change C
only; a byte has no bit 8 to 15, and C is open there (43_logic_bit.md R295, R296, R298 to R300). That the
A,(mem) forms read A after the address register is stepped is decision D18, log entry 13. -/
def Obligations.CarryTakesBit : Prop :=
  ∀ (s : State) (op : CarryOp),
    (∀ z n r, ∃ t f, exec (formCarryNum op z n r) s = .next t ∧ WroteFlags s t f ∧ OnlyCarry s.flags f
        ∧ (n.toNat < z.bits → f.c = CarrySpec op s.flags.c ((s.readReg z r).getLsbD n.toNat)))
    ∧ (∀ z r, ∃ t f, exec (formCarryA op z r) s = .next t ∧ WroteFlags s t f ∧ OnlyCarry s.flags f
        ∧ (s.regA.toNat % 16 < z.bits →
            f.c = CarrySpec op s.flags.c ((s.readReg z r).getLsbD (s.regA.toNat % 16))))
    ∧ (∀ n m, ∃ t f, exec (formCarryNumMem op n m) s = .next t ∧ WroteFlags (s.afterRead .byte m) t f
        ∧ OnlyCarry s.flags f
        ∧ f.c = CarrySpec op s.flags.c (BitVec.getLsbD (s.load .byte (s.ea m)) n.toNat))
    ∧ ∀ m, ∃ t f, exec (formCarryAMem op m) s = .next t ∧ WroteFlags (s.afterRead .byte m) t f
        ∧ OnlyCarry s.flags f
        ∧ ((s.advance m).regA.toNat % 16 < 8 → f.c = CarrySpec op s.flags.c
            (BitVec.getLsbD (s.load .byte (s.ea m)) ((s.advance m).regA.toNat % 16)))

/-- STCF writes C into bit `num`; RES, SET, CHG clear, set or invert it; the other bits and all flags are
kept, and an operand without that bit is kept whole (43_logic_bit.md R297, R306 to R308, R312; for RES,
SET, CHG of a byte register this last is decision D31, log entry 24). That STCF A,(mem) reads A after the
address register is stepped is decision D18, log entry 13; what ROM or a device makes of the store is log
entry 31. -/
def Obligations.BitIsWritten : Prop :=
  ∀ s : State,
    (∀ z n r, r.alignedAt z = true → ∃ t v, exec (.stcfNumr z n r) s = .next t
        ∧ BitPut (s.readReg z r) n.toNat s.flags.c v ∧ WroteReg s t z (operandSel z r) v s.flags)
    ∧ (∀ z r, r.alignedAt z = true → ∃ t v, exec (.stcfAr z r) s = .next t
        ∧ BitPut (s.readReg z r) (s.regA.toNat % 16) s.flags.c v
        ∧ WroteReg s t z (operandSel z r) v s.flags)
    ∧ (∀ n m, ∃ t v, exec (.stcfNumMem n m) s = .next t
        ∧ BitPut (s.load .byte (s.ea m)) n.toNat s.flags.c v
        ∧ WroteMem (s.afterRead .byte m) t .byte (s.ea m) v s.flags)
    ∧ (∀ m, ∃ t v, exec (.stcfAMem m) s = .next t
        ∧ BitPut (s.load .byte (s.ea m)) ((s.advance m).regA.toNat % 16) s.flags.c v
        ∧ WroteMem (s.afterRead .byte m) t .byte (s.ea m) v s.flags)
    ∧ (∀ op z n r, r.alignedAt z = true → ∃ t v, exec (formBitNum op z n r) s = .next t
        ∧ BitPut (s.readReg z r) n.toNat (BitSpec op ((s.readReg z r).getLsbD n.toNat)) v
        ∧ WroteReg s t z (operandSel z r) v s.flags)
    ∧ ∀ op n m, ∃ t v, exec (formBitMem op n m) s = .next t
        ∧ BitPut (s.load .byte (s.ea m)) n.toNat
          (BitSpec op (BitVec.getLsbD (s.load .byte (s.ea m)) n.toNat)) v
        ∧ WroteMem (s.afterRead .byte m) t .byte (s.ea m) v s.flags

/-- BIT gives Z the inverted bit, sets H, clears N, keeps C and leaves S and V open; TSET does the same
and then sets the bit. A byte register has no bit 8 to 15: Z is open there and the register kept
(43_logic_bit.md R305, R309, R312; that is decision D31, log entry 24; what ROM or a device makes of the
store of TSET is log entry 31). -/
def Obligations.BitIsTested : Prop :=
  ∀ (s : State),
    (∀ z n r, ∃ t f, exec (.bitNumr z n r) s = .next t
        ∧ TestSpec (s.readReg z r) n.toNat s.flags f ∧ WroteFlags s t f)
    ∧ (∀ n m, ∃ t f, exec (.bitNumMem n m) s = .next t
        ∧ TestSpec (s.load .byte (s.ea m)) n.toNat s.flags f ∧ WroteFlags (s.afterRead .byte m) t f)
    ∧ (∀ z n r, r.alignedAt z = true → ∃ t f v, exec (.tsetNumr z n r) s = .next t
        ∧ TestSpec (s.readReg z r) n.toNat s.flags f ∧ BitPut (s.readReg z r) n.toNat true v
        ∧ WroteReg s t z (operandSel z r) v f)
    ∧ ∀ n m, ∃ t f v, exec (.tsetNumMem n m) s = .next t
        ∧ TestSpec (s.load .byte (s.ea m)) n.toNat s.flags f
        ∧ BitPut (s.load .byte (s.ea m)) n.toNat true v
        ∧ WroteMem (s.afterRead .byte m) t .byte (s.ea m) v f

/-- RCF is the one byte 10H and clears C; SCF is the one byte 11H and sets it; both clear H and N and
keep S, Z, V and all else (43_logic_bit.md R301, R302). -/
def Obligations.CarryIsResetAndSet : Prop :=
  decode [0x10#8] = .ok (.rcf, []) ∧ decode [0x11#8] = .ok (.scf, [])
    ∧ ∀ s : State,
      (∃ t, exec .rcf s = .next t ∧ WroteFlags s t { s.flags with h := false, n := false, c := false })
      ∧ ∃ t, exec .scf s = .next t ∧ WroteFlags s t { s.flags with h := false, n := false, c := true }

/-- CCF, the byte 12H, inverts C and ZCF, the byte 13H, loads C with the inverted Z; both clear N, leave
H open and keep S, Z, V; NOP, the byte 00H, changes nothing (43_logic_bit.md R303, R304;
44_cpu_control.md R340). -/
def Obligations.CarryIsComplemented : Prop :=
  (decode [0x12#8] = .ok (.ccf, []) ∧ decode [0x13#8] = .ok (.zcf, []) ∧ decode [0x00#8] = .ok (.nop, []))
    ∧ ∀ s : State,
    (∃ t h, exec .ccf s = .next t
        ∧ WroteFlags s t { s.flags with h := h, n := false, c := !s.flags.c })
    ∧ (∃ t h, exec .zcf s = .next t
        ∧ WroteFlags s t { s.flags with h := h, n := false, c := !s.flags.z })
    ∧ ∃ t, exec .nop s = .next t ∧ t = s

/-- BS1F (second byte 0EH) gives A the number of the lowest 1 bit of a word register, and BS1B (0FH) that
of the highest, with V clear; without a 1 bit V is set and A is open; the other flags are kept
(43_logic_bit.md R310, R311). -/
def Obligations.BitSearchFindsBit : Prop :=
  ∀ (s : State) (r : RegOp),
    let w := s.readReg .word r
    (encode (.bs1f r) = regBytes .word r ++ [0x0E#8] ∧ encode (.bs1b r) = regBytes .word r ++ [0x0F#8])
    ∧ (∃ t a, exec (.bs1f r) s = .next t
        ∧ WroteReg s t .byte selA a { s.flags with v := w == 0 }
        ∧ ∀ i, w.getLsbD i = true → (∀ j, j < i → w.getLsbD j = false) → BitVec.toNat a = i)
    ∧ ∃ t a, exec (.bs1b r) s = .next t
        ∧ WroteReg s t .byte selA a { s.flags with v := w == 0 }
        ∧ ∀ i, w.getLsbD i = true → (∀ j, i < j → w.getLsbD j = false) → BitVec.toNat a = i

/-! ### Rotates and shifts -/

/-- The eight rotates and shifts, in closed form, of a register by a number or by A (1 to 16 places) and
of memory by 1 place, with their flags (45_rotate_shift.md R370 to R379; what ROM or a device makes of
the store is log entry 31). -/
def Obligations.RotatesAndShifts : Prop :=
  ∀ (s : State) (op : ShiftOp) (z : Size),
    (∀ n r, r.alignedAt z = true → ∃ t v c f, exec (formShiftNum op z n r) s = .next t
        ∧ ShiftSpec op z (if n = 0#4 then 16 else n.toNat) (s.readReg z r) s.flags.c v c
        ∧ ShiftFlags z v c f ∧ WroteReg s t z (operandSel z r) v f)
    ∧ (∀ r, r.alignedAt z = true → ∃ t v c f, exec (formShiftA op z r) s = .next t
        ∧ ShiftSpec op z (if s.regA.toNat % 16 = 0 then 16 else s.regA.toNat % 16) (s.readReg z r)
          s.flags.c v c
        ∧ ShiftFlags z v c f ∧ WroteReg s t z (operandSel z r) v f)
    ∧ ∀ m, ∃ t v c f, exec (formShiftMem op z m) s = .next t
        ∧ ShiftSpec op z 1 (s.load z (s.ea m)) s.flags.c v c ∧ ShiftFlags z v c f
        ∧ WroteMem (s.afterRead z m) t z (s.ea m) v f

/-- RLD (second byte 06H) and RRD (07H) rotate the low digit of A and the two digits of a byte of memory;
S, Z, V are those of A after it, H and N are clear, C is kept (45_rotate_shift.md R380, R381). That A is
read after the address register is stepped is decision D18, log entry 13; what ROM or a device makes of
the store is log entry 31. -/
def Obligations.DigitRotates : Prop :=
  ∀ (s : State) (m : MemOp),
    (encode (.rld m) = memBytes (some .byte) m ++ [0x06#8]
      ∧ encode (.rrd m) = memBytes (some .byte) m ++ [0x07#8]) ∧
    let a := (s.advance m).regA.toNat
    let b := BitVec.toNat (s.load .byte (s.ea m))
    (∃ (t : State) (v w : BitVec 8), exec (.rld m) s = .next t
        ∧ v.toNat = a / 16 * 16 + b / 16 ∧ w.toNat = b % 16 * 16 + a % 16
        ∧ t.regA = v ∧ Stored (s.afterRead .byte m) t .byte (s.ea m) w ∧ SignZero .byte v t.flags
        ∧ (t.flags.v = true ↔ EvenOnes .byte v) ∧ t.flags.h = false ∧ t.flags.n = false
        ∧ t.flags.c = s.flags.c ∧ t.pc = s.pc
        ∧ Frame (s.afterRead .byte m) t [(.byte, selA)] (spanOf 1 (s.ea m)))
    ∧ ∃ (t : State) (v w : BitVec 8), exec (.rrd m) s = .next t
        ∧ v.toNat = a / 16 * 16 + b % 16 ∧ w.toNat = a % 16 * 16 + b / 16
        ∧ t.regA = v ∧ Stored (s.afterRead .byte m) t .byte (s.ea m) w ∧ SignZero .byte v t.flags
        ∧ (t.flags.v = true ↔ EvenOnes .byte v) ∧ t.flags.h = false ∧ t.flags.n = false
        ∧ t.flags.c = s.flags.c ∧ t.pc = s.pc
        ∧ Frame (s.afterRead .byte m) t [(.byte, selA)] (spanOf 1 (s.ea m))

/-! ### Control registers, frames of procedures, jumps -/

/-- LDC writes a control register from a register of its size and reads one into a register; every other
control register, memory and the flags are kept; at another size it faults (decision D24, log entry 17)
(44_cpu_control.md R347, R348; 10_state.md R42 to R45). -/
def Obligations.ControlRegisterAccess : Prop :=
  (∀ (s : State) (k : ControlReg) (r : RegOp), r.alignedAt k.size = true →
    (∃ t, exec (.ldcCrr k.size k r) s = .next t ∧ t.readControl k = s.readReg k.size r
        ∧ (∀ k', k' ≠ k → t.readControl k' = s.readControl k') ∧ t.flags = s.flags ∧ t.pc = s.pc
        ∧ RegsKept s t [] ∧ SpaceKept s t [] ∧ ModeKept s t)
    ∧ ∃ t, exec (.ldcrCr k.size r k) s = .next t
        ∧ WroteReg s t k.size (operandSel k.size r) (s.readControl k) s.flags)
    ∧ ∀ (s : State) (z : Size) (k : ControlReg) (r : RegOp), k.size ≠ z →
        exec (.ldcCrr z k r) s = .fault .undefinedControlRegister
          ∧ exec (.ldcrCr z r k) s = .fault .undefinedControlRegister

/-- LINK pushes a long word register, gives it the new XSP, and adds d16 to XSP; UNLK loads XSP from the
register and pops the register; UNLK right after LINK into RAM gives both back. Where the register is XSP
itself the steps run on the live register (44_cpu_control.md R349, R350; decision D18, log entry 13);
what ROM or a device makes of the store is log entry 31. -/
def Obligations.LinkAndUnlink : Prop :=
  ∀ (s : State) (r : RegOp) (d : BitVec 16), r.alignedAt .long = true →
    (∃ t, exec (.link r d) s = .next t ∧ Stored s t .long (s.xsp - 4#32) (s.readReg .long r)
        ∧ t.xsp = s.xsp - 4#32 + d.signExtend 32
        ∧ (gprIndex s.rfp (operandSel .long r).whole ≠ gprIndex s.rfp longXSP →
            t.readReg .long r = s.xsp - 4#32)
        ∧ t.flags = s.flags ∧ t.pc = s.pc
        ∧ Frame s t [(.long, operandSel .long r), wholeOf longXSP] (spanOf 4 (s.xsp - 4#32)))
    ∧ (∃ t, exec (.unlk r) s = .next t
        ∧ t.readReg .long r = s.load .long (s.readReg .long r)
        ∧ (gprIndex s.rfp (operandSel .long r).whole ≠ gprIndex s.rfp longXSP →
            t.xsp = s.readLong (operandSel .long r).whole + 4#32)
        ∧ t.flags = s.flags ∧ t.pc = s.pc
        ∧ Frame (s.loaded .long (s.readReg .long r)) t [(.long, operandSel .long r), wholeOf longXSP] [])
    ∧ (gprIndex s.rfp (operandSel .long r).whole ≠ gprIndex s.rfp longXSP →
        RamAt s (spanOf 4 (s.xsp - 4#32)) →
        ∃ t u, exec (.link r d) s = .next t ∧ exec (.unlk r) t = .next u ∧ RegsKept s u []
          ∧ u.flags = s.flags ∧ MemKept s u (spanOf 4 (s.xsp - 4#32)))

/-- A jump taken loads PC with its target and one not taken leaves PC after the instruction; JP mem steps
its address register either way; DJNZ lowers a register by 1 and jumps unless it is 0 then. Nothing else
changes (46_jump_call_return.md R390 to R392, R395; that JP mem steps its register either way is decision
D18, log entry 13). -/
def Obligations.JumpsLoadTheTarget : Prop :=
  ∀ s : State,
    (∀ a, ∃ t, exec (.jpAbs16 a) s = .next t ∧ Jumped s t (0x0000#16 ++ a))
    ∧ (∀ a, ∃ t, exec (.jpAbs24 a) s = .next t ∧ Jumped s t (0x00#8 ++ a))
    ∧ (∀ cc m, ∃ t, exec (.jpMem cc m) s = .next t
        ∧ Jumped (s.advance m) t (if condHolds cc s.flags then s.ea m else s.pc))
    ∧ (∀ cc d, ∃ t, exec (.jr cc d) s = .next t
        ∧ Jumped s t (if condHolds cc s.flags then s.pc + d.signExtend 32 else s.pc))
    ∧ (∀ cc d, ∃ t, exec (.jrl cc d) s = .next t
        ∧ Jumped s t (if condHolds cc s.flags then s.pc + d.signExtend 32 else s.pc))
    ∧ ∀ z r d, r.alignedAt z = true → ∃ t, exec (.djnz z r d) s = .next t
        ∧ t.readReg z r = s.readReg z r - 1 ∧ t.flags = s.flags
        ∧ t.pc = (if s.readReg z r = 1 then s.pc else s.pc + d.signExtend 32)
        ∧ Frame s t [(z, operandSel z r)] []

/-- A call pushes the address after it and loads PC with its target; a return pops PC, and RETD then adds
d16 to XSP; a conditional one not taken does neither; RET after a call that pushes into RAM comes back to
the address after it with XSP as before (46_jump_call_return.md R393, R394, R396, R397; that CALL mem
computes its target before the push and steps its register either way is decision D18, log entry 13; what
ROM or a device makes of the store is log entry 31). -/
def Obligations.CallsAndReturns : Prop :=
  ∀ s : State,
    (∀ a, ∃ t, exec (.callAbs16 a) s = .next t ∧ Pushed s t .long s.pc (0x0000#16 ++ a))
    ∧ (∀ a, ∃ t, exec (.callAbs24 a) s = .next t ∧ Pushed s t .long s.pc (0x00#8 ++ a))
    ∧ (∀ d, ∃ t, exec (.calr d) s = .next t ∧ Pushed s t .long s.pc (s.pc + d.signExtend 32))
    ∧ (∀ cc m, ∃ t, exec (.callMem cc m) s = .next t
        ∧ (if condHolds cc s.flags then Pushed (s.advance m) t .long s.pc (s.ea m)
            else t = s.advance m))
    ∧ (∃ t, exec .ret s = .next t ∧ t.xsp = s.xsp + 4#32
        ∧ Jumped (s.dropTop .long) t (s.load .long s.xsp))
    ∧ (∀ cc, ∃ t, exec (.retCc cc) s = .next t
        ∧ (if condHolds cc s.flags then t.xsp = s.xsp + 4#32
              ∧ Jumped (s.dropTop .long) t (s.load .long s.xsp)
            else t = s))
    ∧ (∀ d, ∃ t, exec (.retd d) s = .next t ∧ t.xsp = s.xsp + 4#32 + d.signExtend 32
        ∧ t.pc = s.load .long s.xsp ∧ t.flags = s.flags
        ∧ Frame (s.loaded .long s.xsp) t [wholeOf longXSP] [])
    ∧ ∀ (a : BitVec 24), RamAt s (spanOf 4 (s.xsp - 4#32)) →
      ∃ t u, exec (.callAbs24 a) s = .next t ∧ exec .ret t = .next u
        ∧ u.pc = s.pc ∧ u.flags = s.flags ∧ Frame s u [] (spanOf 4 (s.xsp - 4#32))

end
end

