-- ==== Sys2Proof/Laws/Decoding.lean ====
section
/-! SUPPORT. The laws of the codes of the fields: each code names again what was coded, and
little-endian fields are read back. -/

namespace Sys2Proof

theorem Size.ofCode_code (z : Size) : Size.ofCode z.code = some z := by cases z <;> rfl

theorem Cond.ofCode_code (cc : Cond) : Cond.ofCode cc.code = cc := by cases cc <;> rfl

theorem Step.ofCode_code (t : Step) : Step.ofCode t.code = some t := by cases t <;> rfl

theorem LongReg.ofCode_code (c : LongReg) : LongReg.ofCode c.code = some c := by
  obtain ⟨g, r⟩ := c
  cases g with
  | bank b => revert b r; decide
  | prev => revert r; decide
  | cur => revert r; decide
  | unbanked => revert r; decide

/-- The upper six and the lower two bits of a byte made of them. -/
theorem extract_high (a : BitVec 6) (b : BitVec 2) : (a ++ b).extractLsb' 2 6 = a := by
  revert a b
  decide

theorem extract_low (a : BitVec 6) (b : BitVec 2) : (a ++ b).extractLsb' 0 2 = b := by
  revert a b
  decide

theorem RegSel.ofCode_code (c : RegSel) : RegSel.ofCode c.code = some c := by
  simp [RegSel.ofCode, RegSel.code, extract_high, extract_low, LongReg.ofCode_code]

theorem ControlReg.ofCode_code (k : ControlReg) : ControlReg.ofCode k.code = some k := by
  cases k with
  | dmas n => revert n; decide
  | dmad n => revert n; decide
  | dmac n => revert n; decide
  | dmam n => revert n; decide
  | intnest => decide

/-- Adjacent fields of a value put together again. -/
theorem extract_append {n : Nat} (v : BitVec n) (lo a b : Nat) :
    v.extractLsb' (lo + a) b ++ v.extractLsb' lo a = v.extractLsb' lo (b + a) := by
  ext i hi
  simp only [BitVec.getElem_append, BitVec.getElem_extractLsb']
  split
  · rfl
  · congr 1
    omega

/-- Little-endian fields are read back (20_memory.md R73). -/
theorem with16_le16 (v : BitVec 16) (t : List Byte) (k : BitVec 16 → List Byte → Decoded) :
    with16 (le16 v ++ t) k = k v t := by
  have h := extract_append v 0 8 8
  rw [BitVec.extractLsb'_eq_self] at h
  simp only [with16, le16, List.cons_append, List.nil_append]
  exact congrArg (k · t) h

theorem with24_le24 (v : BitVec 24) (t : List Byte) (k : BitVec 24 → List Byte → Decoded) :
    with24 (le24 v ++ t) k = k v t := by
  have h1 := extract_append v 8 8 8
  have h2 := extract_append v 0 8 16
  rw [BitVec.extractLsb'_eq_self] at h2
  simp only [with24, le24, List.cons_append, List.nil_append]
  refine congrArg (k · t) ?_
  rw [show v.extractLsb' 16 8 ++ v.extractLsb' 8 8 = v.extractLsb' 8 16 from h1]
  exact h2

theorem with32_le32 (v : BitVec 32) (t : List Byte) (k : BitVec 32 → List Byte → Decoded) :
    with32 (le32 v ++ t) k = k v t := by
  have h1 := extract_append v 16 8 8
  have h2 := extract_append v 8 8 16
  have h3 := extract_append v 0 8 24
  rw [BitVec.extractLsb'_eq_self] at h3
  simp only [with32, le32, List.cons_append, List.nil_append]
  refine congrArg (k · t) ?_
  rw [show v.extractLsb' 24 8 ++ v.extractLsb' 16 8 = v.extractLsb' 16 16 from h1,
    show v.extractLsb' 16 16 ++ v.extractLsb' 8 8 = v.extractLsb' 8 24 from h2]
  exact h3

end Sys2Proof
end

