-- ==== Sys2Proof/Laws/State.lean ====
section
/-! SUPPORT. What each update of the state does to each field, and what each read sees of it: one lemma
per field per update, so that no proof unfolds a record update. -/

namespace Sys2Proof.Machine

variable (s : State)

/-! ### Fields -/

@[simp] theorem State.writeLong_gpr (c : LongReg) (v : BitVec 32) : (s.writeLong c v).gpr = s.gpr.set (gprIndex s.rfp c) v := rfl
@[simp] theorem State.writeLong_pc (c : LongReg) (v : BitVec 32) : (s.writeLong c v).pc = s.pc := rfl
@[simp] theorem State.writeLong_iff (c : LongReg) (v : BitVec 32) : (s.writeLong c v).iff = s.iff := rfl
@[simp] theorem State.writeLong_rfp (c : LongReg) (v : BitVec 32) : (s.writeLong c v).rfp = s.rfp := rfl
@[simp] theorem State.writeLong_flags (c : LongReg) (v : BitVec 32) : (s.writeLong c v).flags = s.flags := rfl
@[simp] theorem State.writeLong_altFlags (c : LongReg) (v : BitVec 32) : (s.writeLong c v).altFlags = s.altFlags := rfl
@[simp] theorem State.writeLong_dmas (c : LongReg) (v : BitVec 32) : (s.writeLong c v).dmas = s.dmas := rfl
@[simp] theorem State.writeLong_dmad (c : LongReg) (v : BitVec 32) : (s.writeLong c v).dmad = s.dmad := rfl
@[simp] theorem State.writeLong_dmac (c : LongReg) (v : BitVec 32) : (s.writeLong c v).dmac = s.dmac := rfl
@[simp] theorem State.writeLong_dmam (c : LongReg) (v : BitVec 32) : (s.writeLong c v).dmam = s.dmam := rfl
@[simp] theorem State.writeLong_intnest (c : LongReg) (v : BitVec 32) : (s.writeLong c v).intnest = s.intnest := rfl
@[simp] theorem State.writeLong_halted (c : LongReg) (v : BitVec 32) : (s.writeLong c v).halted = s.halted := rfl
@[simp] theorem State.writeLong_bus (c : LongReg) (v : BitVec 32) : (s.writeLong c v).bus = s.bus := rfl
@[simp] theorem State.writeLong_inputs (c : LongReg) (v : BitVec 32) : (s.writeLong c v).inputs = s.inputs := rfl
@[simp] theorem State.writeLong_draws (c : LongReg) (v : BitVec 32) : (s.writeLong c v).draws = s.draws := rfl
@[simp] theorem State.writeLong_written (c : LongReg) (v : BitVec 32) : (s.writeLong c v).written = s.written := rfl
@[simp] theorem State.writeLong_repeating (c : LongReg) (v : BitVec 32) : (s.writeLong c v).repeating = s.repeating := rfl

@[simp] theorem State.writeSel_pc (z : Size) (c : RegSel) (v : BitVec z.bits) : (s.writeSel z c v).pc = s.pc := rfl
@[simp] theorem State.writeSel_iff (z : Size) (c : RegSel) (v : BitVec z.bits) : (s.writeSel z c v).iff = s.iff := rfl
@[simp] theorem State.writeSel_rfp (z : Size) (c : RegSel) (v : BitVec z.bits) : (s.writeSel z c v).rfp = s.rfp := rfl
@[simp] theorem State.writeSel_flags (z : Size) (c : RegSel) (v : BitVec z.bits) : (s.writeSel z c v).flags = s.flags := rfl
@[simp] theorem State.writeSel_altFlags (z : Size) (c : RegSel) (v : BitVec z.bits) : (s.writeSel z c v).altFlags = s.altFlags := rfl
@[simp] theorem State.writeSel_dmas (z : Size) (c : RegSel) (v : BitVec z.bits) : (s.writeSel z c v).dmas = s.dmas := rfl
@[simp] theorem State.writeSel_dmad (z : Size) (c : RegSel) (v : BitVec z.bits) : (s.writeSel z c v).dmad = s.dmad := rfl
@[simp] theorem State.writeSel_dmac (z : Size) (c : RegSel) (v : BitVec z.bits) : (s.writeSel z c v).dmac = s.dmac := rfl
@[simp] theorem State.writeSel_dmam (z : Size) (c : RegSel) (v : BitVec z.bits) : (s.writeSel z c v).dmam = s.dmam := rfl
@[simp] theorem State.writeSel_intnest (z : Size) (c : RegSel) (v : BitVec z.bits) : (s.writeSel z c v).intnest = s.intnest := rfl
@[simp] theorem State.writeSel_halted (z : Size) (c : RegSel) (v : BitVec z.bits) : (s.writeSel z c v).halted = s.halted := rfl
@[simp] theorem State.writeSel_bus (z : Size) (c : RegSel) (v : BitVec z.bits) : (s.writeSel z c v).bus = s.bus := rfl
@[simp] theorem State.writeSel_inputs (z : Size) (c : RegSel) (v : BitVec z.bits) : (s.writeSel z c v).inputs = s.inputs := rfl
@[simp] theorem State.writeSel_draws (z : Size) (c : RegSel) (v : BitVec z.bits) : (s.writeSel z c v).draws = s.draws := rfl
@[simp] theorem State.writeSel_written (z : Size) (c : RegSel) (v : BitVec z.bits) : (s.writeSel z c v).written = s.written := rfl
@[simp] theorem State.writeSel_repeating (z : Size) (c : RegSel) (v : BitVec z.bits) : (s.writeSel z c v).repeating = s.repeating := rfl

@[simp] theorem State.writeShort_pc (z : Size) (R : BitVec 3) (v : BitVec z.bits) : (s.writeShort z R v).pc = s.pc := rfl
@[simp] theorem State.writeShort_iff (z : Size) (R : BitVec 3) (v : BitVec z.bits) : (s.writeShort z R v).iff = s.iff := rfl
@[simp] theorem State.writeShort_rfp (z : Size) (R : BitVec 3) (v : BitVec z.bits) : (s.writeShort z R v).rfp = s.rfp := rfl
@[simp] theorem State.writeShort_flags (z : Size) (R : BitVec 3) (v : BitVec z.bits) : (s.writeShort z R v).flags = s.flags := rfl
@[simp] theorem State.writeShort_altFlags (z : Size) (R : BitVec 3) (v : BitVec z.bits) : (s.writeShort z R v).altFlags = s.altFlags := rfl
@[simp] theorem State.writeShort_dmas (z : Size) (R : BitVec 3) (v : BitVec z.bits) : (s.writeShort z R v).dmas = s.dmas := rfl
@[simp] theorem State.writeShort_dmad (z : Size) (R : BitVec 3) (v : BitVec z.bits) : (s.writeShort z R v).dmad = s.dmad := rfl
@[simp] theorem State.writeShort_dmac (z : Size) (R : BitVec 3) (v : BitVec z.bits) : (s.writeShort z R v).dmac = s.dmac := rfl
@[simp] theorem State.writeShort_dmam (z : Size) (R : BitVec 3) (v : BitVec z.bits) : (s.writeShort z R v).dmam = s.dmam := rfl
@[simp] theorem State.writeShort_intnest (z : Size) (R : BitVec 3) (v : BitVec z.bits) : (s.writeShort z R v).intnest = s.intnest := rfl
@[simp] theorem State.writeShort_halted (z : Size) (R : BitVec 3) (v : BitVec z.bits) : (s.writeShort z R v).halted = s.halted := rfl
@[simp] theorem State.writeShort_bus (z : Size) (R : BitVec 3) (v : BitVec z.bits) : (s.writeShort z R v).bus = s.bus := rfl
@[simp] theorem State.writeShort_inputs (z : Size) (R : BitVec 3) (v : BitVec z.bits) : (s.writeShort z R v).inputs = s.inputs := rfl
@[simp] theorem State.writeShort_draws (z : Size) (R : BitVec 3) (v : BitVec z.bits) : (s.writeShort z R v).draws = s.draws := rfl
@[simp] theorem State.writeShort_written (z : Size) (R : BitVec 3) (v : BitVec z.bits) : (s.writeShort z R v).written = s.written := rfl
@[simp] theorem State.writeShort_repeating (z : Size) (R : BitVec 3) (v : BitVec z.bits) : (s.writeShort z R v).repeating = s.repeating := rfl

@[simp] theorem State.writeReg_pc (z : Size) (r : RegOp) (v : BitVec z.bits) : (s.writeReg z r v).pc = s.pc := rfl
@[simp] theorem State.writeReg_iff (z : Size) (r : RegOp) (v : BitVec z.bits) : (s.writeReg z r v).iff = s.iff := rfl
@[simp] theorem State.writeReg_rfp (z : Size) (r : RegOp) (v : BitVec z.bits) : (s.writeReg z r v).rfp = s.rfp := rfl
@[simp] theorem State.writeReg_flags (z : Size) (r : RegOp) (v : BitVec z.bits) : (s.writeReg z r v).flags = s.flags := rfl
@[simp] theorem State.writeReg_altFlags (z : Size) (r : RegOp) (v : BitVec z.bits) : (s.writeReg z r v).altFlags = s.altFlags := rfl
@[simp] theorem State.writeReg_dmas (z : Size) (r : RegOp) (v : BitVec z.bits) : (s.writeReg z r v).dmas = s.dmas := rfl
@[simp] theorem State.writeReg_dmad (z : Size) (r : RegOp) (v : BitVec z.bits) : (s.writeReg z r v).dmad = s.dmad := rfl
@[simp] theorem State.writeReg_dmac (z : Size) (r : RegOp) (v : BitVec z.bits) : (s.writeReg z r v).dmac = s.dmac := rfl
@[simp] theorem State.writeReg_dmam (z : Size) (r : RegOp) (v : BitVec z.bits) : (s.writeReg z r v).dmam = s.dmam := rfl
@[simp] theorem State.writeReg_intnest (z : Size) (r : RegOp) (v : BitVec z.bits) : (s.writeReg z r v).intnest = s.intnest := rfl
@[simp] theorem State.writeReg_halted (z : Size) (r : RegOp) (v : BitVec z.bits) : (s.writeReg z r v).halted = s.halted := rfl
@[simp] theorem State.writeReg_bus (z : Size) (r : RegOp) (v : BitVec z.bits) : (s.writeReg z r v).bus = s.bus := rfl
@[simp] theorem State.writeReg_inputs (z : Size) (r : RegOp) (v : BitVec z.bits) : (s.writeReg z r v).inputs = s.inputs := rfl
@[simp] theorem State.writeReg_draws (z : Size) (r : RegOp) (v : BitVec z.bits) : (s.writeReg z r v).draws = s.draws := rfl
@[simp] theorem State.writeReg_written (z : Size) (r : RegOp) (v : BitVec z.bits) : (s.writeReg z r v).written = s.written := rfl
@[simp] theorem State.writeReg_repeating (z : Size) (r : RegOp) (v : BitVec z.bits) : (s.writeReg z r v).repeating = s.repeating := rfl

@[simp] theorem State.setXsp_pc (v : BitVec 32) : (s.setXsp v).pc = s.pc := rfl
@[simp] theorem State.setXsp_iff (v : BitVec 32) : (s.setXsp v).iff = s.iff := rfl
@[simp] theorem State.setXsp_rfp (v : BitVec 32) : (s.setXsp v).rfp = s.rfp := rfl
@[simp] theorem State.setXsp_flags (v : BitVec 32) : (s.setXsp v).flags = s.flags := rfl
@[simp] theorem State.setXsp_altFlags (v : BitVec 32) : (s.setXsp v).altFlags = s.altFlags := rfl
@[simp] theorem State.setXsp_dmas (v : BitVec 32) : (s.setXsp v).dmas = s.dmas := rfl
@[simp] theorem State.setXsp_dmad (v : BitVec 32) : (s.setXsp v).dmad = s.dmad := rfl
@[simp] theorem State.setXsp_dmac (v : BitVec 32) : (s.setXsp v).dmac = s.dmac := rfl
@[simp] theorem State.setXsp_dmam (v : BitVec 32) : (s.setXsp v).dmam = s.dmam := rfl
@[simp] theorem State.setXsp_intnest (v : BitVec 32) : (s.setXsp v).intnest = s.intnest := rfl
@[simp] theorem State.setXsp_halted (v : BitVec 32) : (s.setXsp v).halted = s.halted := rfl
@[simp] theorem State.setXsp_bus (v : BitVec 32) : (s.setXsp v).bus = s.bus := rfl
@[simp] theorem State.setXsp_inputs (v : BitVec 32) : (s.setXsp v).inputs = s.inputs := rfl
@[simp] theorem State.setXsp_draws (v : BitVec 32) : (s.setXsp v).draws = s.draws := rfl
@[simp] theorem State.setXsp_written (v : BitVec 32) : (s.setXsp v).written = s.written := rfl
@[simp] theorem State.setXsp_repeating (v : BitVec 32) : (s.setXsp v).repeating = s.repeating := rfl

@[simp] theorem State.dropTop_pc (z : Size) : (s.dropTop z).pc = s.pc := rfl
@[simp] theorem State.dropTop_iff (z : Size) : (s.dropTop z).iff = s.iff := rfl
@[simp] theorem State.dropTop_rfp (z : Size) : (s.dropTop z).rfp = s.rfp := rfl
@[simp] theorem State.dropTop_flags (z : Size) : (s.dropTop z).flags = s.flags := rfl
@[simp] theorem State.dropTop_altFlags (z : Size) : (s.dropTop z).altFlags = s.altFlags := rfl
@[simp] theorem State.dropTop_dmas (z : Size) : (s.dropTop z).dmas = s.dmas := rfl
@[simp] theorem State.dropTop_dmad (z : Size) : (s.dropTop z).dmad = s.dmad := rfl
@[simp] theorem State.dropTop_dmac (z : Size) : (s.dropTop z).dmac = s.dmac := rfl
@[simp] theorem State.dropTop_dmam (z : Size) : (s.dropTop z).dmam = s.dmam := rfl
@[simp] theorem State.dropTop_intnest (z : Size) : (s.dropTop z).intnest = s.intnest := rfl
@[simp] theorem State.dropTop_halted (z : Size) : (s.dropTop z).halted = s.halted := rfl
@[simp] theorem State.dropTop_bus (z : Size) : (s.dropTop z).bus = s.bus.noteReads z.bytes s.xsp := rfl
@[simp] theorem State.dropTop_inputs (z : Size) : (s.dropTop z).inputs = s.inputs := rfl
@[simp] theorem State.dropTop_draws (z : Size) : (s.dropTop z).draws = s.draws := rfl
@[simp] theorem State.dropTop_written (z : Size) : (s.dropTop z).written = s.written := rfl
@[simp] theorem State.dropTop_repeating (z : Size) : (s.dropTop z).repeating = s.repeating := rfl

@[simp] theorem State.countDown_pc : (s.countDown).pc = s.pc := rfl
@[simp] theorem State.countDown_iff : (s.countDown).iff = s.iff := rfl
@[simp] theorem State.countDown_rfp : (s.countDown).rfp = s.rfp := rfl
@[simp] theorem State.countDown_flags : (s.countDown).flags = s.flags := rfl
@[simp] theorem State.countDown_altFlags : (s.countDown).altFlags = s.altFlags := rfl
@[simp] theorem State.countDown_dmas : (s.countDown).dmas = s.dmas := rfl
@[simp] theorem State.countDown_dmad : (s.countDown).dmad = s.dmad := rfl
@[simp] theorem State.countDown_dmac : (s.countDown).dmac = s.dmac := rfl
@[simp] theorem State.countDown_dmam : (s.countDown).dmam = s.dmam := rfl
@[simp] theorem State.countDown_intnest : (s.countDown).intnest = s.intnest := rfl
@[simp] theorem State.countDown_halted : (s.countDown).halted = s.halted := rfl
@[simp] theorem State.countDown_bus : (s.countDown).bus = s.bus := rfl
@[simp] theorem State.countDown_inputs : (s.countDown).inputs = s.inputs := rfl
@[simp] theorem State.countDown_draws : (s.countDown).draws = s.draws := rfl
@[simp] theorem State.countDown_written : (s.countDown).written = s.written := rfl
@[simp] theorem State.countDown_repeating : (s.countDown).repeating = s.repeating := rfl

@[simp] theorem State.movePointer_pc (z : Size) (down : Bool) (p : LongReg) : (s.movePointer z down p).pc = s.pc := rfl
@[simp] theorem State.movePointer_iff (z : Size) (down : Bool) (p : LongReg) : (s.movePointer z down p).iff = s.iff := rfl
@[simp] theorem State.movePointer_rfp (z : Size) (down : Bool) (p : LongReg) : (s.movePointer z down p).rfp = s.rfp := rfl
@[simp] theorem State.movePointer_flags (z : Size) (down : Bool) (p : LongReg) : (s.movePointer z down p).flags = s.flags := rfl
@[simp] theorem State.movePointer_altFlags (z : Size) (down : Bool) (p : LongReg) : (s.movePointer z down p).altFlags = s.altFlags := rfl
@[simp] theorem State.movePointer_dmas (z : Size) (down : Bool) (p : LongReg) : (s.movePointer z down p).dmas = s.dmas := rfl
@[simp] theorem State.movePointer_dmad (z : Size) (down : Bool) (p : LongReg) : (s.movePointer z down p).dmad = s.dmad := rfl
@[simp] theorem State.movePointer_dmac (z : Size) (down : Bool) (p : LongReg) : (s.movePointer z down p).dmac = s.dmac := rfl
@[simp] theorem State.movePointer_dmam (z : Size) (down : Bool) (p : LongReg) : (s.movePointer z down p).dmam = s.dmam := rfl
@[simp] theorem State.movePointer_intnest (z : Size) (down : Bool) (p : LongReg) : (s.movePointer z down p).intnest = s.intnest := rfl
@[simp] theorem State.movePointer_halted (z : Size) (down : Bool) (p : LongReg) : (s.movePointer z down p).halted = s.halted := rfl
@[simp] theorem State.movePointer_bus (z : Size) (down : Bool) (p : LongReg) : (s.movePointer z down p).bus = s.bus := rfl
@[simp] theorem State.movePointer_inputs (z : Size) (down : Bool) (p : LongReg) : (s.movePointer z down p).inputs = s.inputs := rfl
@[simp] theorem State.movePointer_draws (z : Size) (down : Bool) (p : LongReg) : (s.movePointer z down p).draws = s.draws := rfl
@[simp] theorem State.movePointer_written (z : Size) (down : Bool) (p : LongReg) : (s.movePointer z down p).written = s.written := rfl
@[simp] theorem State.movePointer_repeating (z : Size) (down : Bool) (p : LongReg) : (s.movePointer z down p).repeating = s.repeating := rfl

@[simp] theorem State.loaded_gpr (z : Size) (a : Addr) : (s.loaded z a).gpr = s.gpr := rfl
@[simp] theorem State.loaded_pc (z : Size) (a : Addr) : (s.loaded z a).pc = s.pc := rfl
@[simp] theorem State.loaded_iff (z : Size) (a : Addr) : (s.loaded z a).iff = s.iff := rfl
@[simp] theorem State.loaded_rfp (z : Size) (a : Addr) : (s.loaded z a).rfp = s.rfp := rfl
@[simp] theorem State.loaded_flags (z : Size) (a : Addr) : (s.loaded z a).flags = s.flags := rfl
@[simp] theorem State.loaded_altFlags (z : Size) (a : Addr) : (s.loaded z a).altFlags = s.altFlags := rfl
@[simp] theorem State.loaded_dmas (z : Size) (a : Addr) : (s.loaded z a).dmas = s.dmas := rfl
@[simp] theorem State.loaded_dmad (z : Size) (a : Addr) : (s.loaded z a).dmad = s.dmad := rfl
@[simp] theorem State.loaded_dmac (z : Size) (a : Addr) : (s.loaded z a).dmac = s.dmac := rfl
@[simp] theorem State.loaded_dmam (z : Size) (a : Addr) : (s.loaded z a).dmam = s.dmam := rfl
@[simp] theorem State.loaded_intnest (z : Size) (a : Addr) : (s.loaded z a).intnest = s.intnest := rfl
@[simp] theorem State.loaded_halted (z : Size) (a : Addr) : (s.loaded z a).halted = s.halted := rfl
@[simp] theorem State.loaded_bus (z : Size) (a : Addr) : (s.loaded z a).bus = s.bus.noteReads z.bytes a := rfl
@[simp] theorem State.loaded_inputs (z : Size) (a : Addr) : (s.loaded z a).inputs = s.inputs := rfl
@[simp] theorem State.loaded_draws (z : Size) (a : Addr) : (s.loaded z a).draws = s.draws := rfl
@[simp] theorem State.loaded_written (z : Size) (a : Addr) : (s.loaded z a).written = s.written := rfl
@[simp] theorem State.loaded_repeating (z : Size) (a : Addr) : (s.loaded z a).repeating = s.repeating := rfl

@[simp] theorem State.store_gpr (z : Size) (a : Addr) (v : BitVec z.bits) : (s.store z a v).gpr = s.gpr := rfl
@[simp] theorem State.store_pc (z : Size) (a : Addr) (v : BitVec z.bits) : (s.store z a v).pc = s.pc := rfl
@[simp] theorem State.store_iff (z : Size) (a : Addr) (v : BitVec z.bits) : (s.store z a v).iff = s.iff := rfl
@[simp] theorem State.store_rfp (z : Size) (a : Addr) (v : BitVec z.bits) : (s.store z a v).rfp = s.rfp := rfl
@[simp] theorem State.store_flags (z : Size) (a : Addr) (v : BitVec z.bits) : (s.store z a v).flags = s.flags := rfl
@[simp] theorem State.store_altFlags (z : Size) (a : Addr) (v : BitVec z.bits) : (s.store z a v).altFlags = s.altFlags := rfl
@[simp] theorem State.store_dmas (z : Size) (a : Addr) (v : BitVec z.bits) : (s.store z a v).dmas = s.dmas := rfl
@[simp] theorem State.store_dmad (z : Size) (a : Addr) (v : BitVec z.bits) : (s.store z a v).dmad = s.dmad := rfl
@[simp] theorem State.store_dmac (z : Size) (a : Addr) (v : BitVec z.bits) : (s.store z a v).dmac = s.dmac := rfl
@[simp] theorem State.store_dmam (z : Size) (a : Addr) (v : BitVec z.bits) : (s.store z a v).dmam = s.dmam := rfl
@[simp] theorem State.store_intnest (z : Size) (a : Addr) (v : BitVec z.bits) : (s.store z a v).intnest = s.intnest := rfl
@[simp] theorem State.store_halted (z : Size) (a : Addr) (v : BitVec z.bits) : (s.store z a v).halted = s.halted := rfl
@[simp] theorem State.store_bus (z : Size) (a : Addr) (v : BitVec z.bits) : (s.store z a v).bus = s.bus.storeLE z.bytes a v.toNat := rfl
@[simp] theorem State.store_inputs (z : Size) (a : Addr) (v : BitVec z.bits) : (s.store z a v).inputs = s.inputs := rfl
@[simp] theorem State.store_draws (z : Size) (a : Addr) (v : BitVec z.bits) : (s.store z a v).draws = s.draws := rfl
@[simp] theorem State.store_written (z : Size) (a : Addr) (v : BitVec z.bits) : (s.store z a v).written = spanOf z.bytes a ++ s.written := rfl
@[simp] theorem State.store_repeating (z : Size) (a : Addr) (v : BitVec z.bits) : (s.store z a v).repeating = s.repeating := rfl

@[simp] theorem State.push_pc (z : Size) (v : BitVec z.bits) : (s.push z v).pc = s.pc := rfl
@[simp] theorem State.push_iff (z : Size) (v : BitVec z.bits) : (s.push z v).iff = s.iff := rfl
@[simp] theorem State.push_rfp (z : Size) (v : BitVec z.bits) : (s.push z v).rfp = s.rfp := rfl
@[simp] theorem State.push_flags (z : Size) (v : BitVec z.bits) : (s.push z v).flags = s.flags := rfl
@[simp] theorem State.push_altFlags (z : Size) (v : BitVec z.bits) : (s.push z v).altFlags = s.altFlags := rfl
@[simp] theorem State.push_dmas (z : Size) (v : BitVec z.bits) : (s.push z v).dmas = s.dmas := rfl
@[simp] theorem State.push_dmad (z : Size) (v : BitVec z.bits) : (s.push z v).dmad = s.dmad := rfl
@[simp] theorem State.push_dmac (z : Size) (v : BitVec z.bits) : (s.push z v).dmac = s.dmac := rfl
@[simp] theorem State.push_dmam (z : Size) (v : BitVec z.bits) : (s.push z v).dmam = s.dmam := rfl
@[simp] theorem State.push_intnest (z : Size) (v : BitVec z.bits) : (s.push z v).intnest = s.intnest := rfl
@[simp] theorem State.push_halted (z : Size) (v : BitVec z.bits) : (s.push z v).halted = s.halted := rfl
@[simp] theorem State.push_bus (z : Size) (v : BitVec z.bits) : (s.push z v).bus = s.bus.storeLE z.bytes (s.xsp - sizeWord z) v.toNat := rfl
@[simp] theorem State.push_inputs (z : Size) (v : BitVec z.bits) : (s.push z v).inputs = s.inputs := rfl
@[simp] theorem State.push_draws (z : Size) (v : BitVec z.bits) : (s.push z v).draws = s.draws := rfl
@[simp] theorem State.push_written (z : Size) (v : BitVec z.bits) : (s.push z v).written = spanOf z.bytes (s.xsp - sizeWord z) ++ s.written := rfl
@[simp] theorem State.push_repeating (z : Size) (v : BitVec z.bits) : (s.push z v).repeating = s.repeating := rfl

@[simp] theorem State.setFlags_gpr (f : Flags) : (s.setFlags f).gpr = s.gpr := rfl
@[simp] theorem State.setFlags_pc (f : Flags) : (s.setFlags f).pc = s.pc := rfl
@[simp] theorem State.setFlags_iff (f : Flags) : (s.setFlags f).iff = s.iff := rfl
@[simp] theorem State.setFlags_rfp (f : Flags) : (s.setFlags f).rfp = s.rfp := rfl
@[simp] theorem State.setFlags_flags (f : Flags) : (s.setFlags f).flags = f := rfl
@[simp] theorem State.setFlags_altFlags (f : Flags) : (s.setFlags f).altFlags = s.altFlags := rfl
@[simp] theorem State.setFlags_dmas (f : Flags) : (s.setFlags f).dmas = s.dmas := rfl
@[simp] theorem State.setFlags_dmad (f : Flags) : (s.setFlags f).dmad = s.dmad := rfl
@[simp] theorem State.setFlags_dmac (f : Flags) : (s.setFlags f).dmac = s.dmac := rfl
@[simp] theorem State.setFlags_dmam (f : Flags) : (s.setFlags f).dmam = s.dmam := rfl
@[simp] theorem State.setFlags_intnest (f : Flags) : (s.setFlags f).intnest = s.intnest := rfl
@[simp] theorem State.setFlags_halted (f : Flags) : (s.setFlags f).halted = s.halted := rfl
@[simp] theorem State.setFlags_bus (f : Flags) : (s.setFlags f).bus = s.bus := rfl
@[simp] theorem State.setFlags_inputs (f : Flags) : (s.setFlags f).inputs = s.inputs := rfl
@[simp] theorem State.setFlags_draws (f : Flags) : (s.setFlags f).draws = s.draws := rfl
@[simp] theorem State.setFlags_written (f : Flags) : (s.setFlags f).written = s.written := rfl
@[simp] theorem State.setFlags_repeating (f : Flags) : (s.setFlags f).repeating = s.repeating := rfl

@[simp] theorem State.setCarry_gpr (b : Bool) : (s.setCarry b).gpr = s.gpr := rfl
@[simp] theorem State.setCarry_pc (b : Bool) : (s.setCarry b).pc = s.pc := rfl
@[simp] theorem State.setCarry_iff (b : Bool) : (s.setCarry b).iff = s.iff := rfl
@[simp] theorem State.setCarry_rfp (b : Bool) : (s.setCarry b).rfp = s.rfp := rfl
@[simp] theorem State.setCarry_flags (b : Bool) : (s.setCarry b).flags = { s.flags with c := b } := rfl
@[simp] theorem State.setCarry_altFlags (b : Bool) : (s.setCarry b).altFlags = s.altFlags := rfl
@[simp] theorem State.setCarry_dmas (b : Bool) : (s.setCarry b).dmas = s.dmas := rfl
@[simp] theorem State.setCarry_dmad (b : Bool) : (s.setCarry b).dmad = s.dmad := rfl
@[simp] theorem State.setCarry_dmac (b : Bool) : (s.setCarry b).dmac = s.dmac := rfl
@[simp] theorem State.setCarry_dmam (b : Bool) : (s.setCarry b).dmam = s.dmam := rfl
@[simp] theorem State.setCarry_intnest (b : Bool) : (s.setCarry b).intnest = s.intnest := rfl
@[simp] theorem State.setCarry_halted (b : Bool) : (s.setCarry b).halted = s.halted := rfl
@[simp] theorem State.setCarry_bus (b : Bool) : (s.setCarry b).bus = s.bus := rfl
@[simp] theorem State.setCarry_inputs (b : Bool) : (s.setCarry b).inputs = s.inputs := rfl
@[simp] theorem State.setCarry_draws (b : Bool) : (s.setCarry b).draws = s.draws := rfl
@[simp] theorem State.setCarry_written (b : Bool) : (s.setCarry b).written = s.written := rfl
@[simp] theorem State.setCarry_repeating (b : Bool) : (s.setCarry b).repeating = s.repeating := rfl

@[simp] theorem State.transferFlags_gpr (v : Bool) : (s.transferFlags v).gpr = s.gpr := rfl
@[simp] theorem State.transferFlags_pc (v : Bool) : (s.transferFlags v).pc = s.pc := rfl
@[simp] theorem State.transferFlags_iff (v : Bool) : (s.transferFlags v).iff = s.iff := rfl
@[simp] theorem State.transferFlags_rfp (v : Bool) : (s.transferFlags v).rfp = s.rfp := rfl
@[simp] theorem State.transferFlags_flags (v : Bool) : (s.transferFlags v).flags = { s.flags with h := false, v := v, n := false } := rfl
@[simp] theorem State.transferFlags_altFlags (v : Bool) : (s.transferFlags v).altFlags = s.altFlags := rfl
@[simp] theorem State.transferFlags_dmas (v : Bool) : (s.transferFlags v).dmas = s.dmas := rfl
@[simp] theorem State.transferFlags_dmad (v : Bool) : (s.transferFlags v).dmad = s.dmad := rfl
@[simp] theorem State.transferFlags_dmac (v : Bool) : (s.transferFlags v).dmac = s.dmac := rfl
@[simp] theorem State.transferFlags_dmam (v : Bool) : (s.transferFlags v).dmam = s.dmam := rfl
@[simp] theorem State.transferFlags_intnest (v : Bool) : (s.transferFlags v).intnest = s.intnest := rfl
@[simp] theorem State.transferFlags_halted (v : Bool) : (s.transferFlags v).halted = s.halted := rfl
@[simp] theorem State.transferFlags_bus (v : Bool) : (s.transferFlags v).bus = s.bus := rfl
@[simp] theorem State.transferFlags_inputs (v : Bool) : (s.transferFlags v).inputs = s.inputs := rfl
@[simp] theorem State.transferFlags_draws (v : Bool) : (s.transferFlags v).draws = s.draws := rfl
@[simp] theorem State.transferFlags_written (v : Bool) : (s.transferFlags v).written = s.written := rfl
@[simp] theorem State.transferFlags_repeating (v : Bool) : (s.transferFlags v).repeating = s.repeating := rfl

@[simp] theorem State.setSr_gpr (v : BitVec 16) : (s.setSr v).gpr = s.gpr := rfl
@[simp] theorem State.setSr_pc (v : BitVec 16) : (s.setSr v).pc = s.pc := rfl
@[simp] theorem State.setSr_iff (v : BitVec 16) : (s.setSr v).iff = v.extractLsb' 12 3 := rfl
@[simp] theorem State.setSr_rfp (v : BitVec 16) : (s.setSr v).rfp = v.extractLsb' 8 2 := rfl
@[simp] theorem State.setSr_flags (v : BitVec 16) : (s.setSr v).flags = Flags.ofByte (v.extractLsb' 0 8) := rfl
@[simp] theorem State.setSr_altFlags (v : BitVec 16) : (s.setSr v).altFlags = s.altFlags := rfl
@[simp] theorem State.setSr_dmas (v : BitVec 16) : (s.setSr v).dmas = s.dmas := rfl
@[simp] theorem State.setSr_dmad (v : BitVec 16) : (s.setSr v).dmad = s.dmad := rfl
@[simp] theorem State.setSr_dmac (v : BitVec 16) : (s.setSr v).dmac = s.dmac := rfl
@[simp] theorem State.setSr_dmam (v : BitVec 16) : (s.setSr v).dmam = s.dmam := rfl
@[simp] theorem State.setSr_intnest (v : BitVec 16) : (s.setSr v).intnest = s.intnest := rfl
@[simp] theorem State.setSr_halted (v : BitVec 16) : (s.setSr v).halted = s.halted := rfl
@[simp] theorem State.setSr_bus (v : BitVec 16) : (s.setSr v).bus = s.bus := rfl
@[simp] theorem State.setSr_inputs (v : BitVec 16) : (s.setSr v).inputs = s.inputs := rfl
@[simp] theorem State.setSr_draws (v : BitVec 16) : (s.setSr v).draws = s.draws := rfl
@[simp] theorem State.setSr_written (v : BitVec 16) : (s.setSr v).written = s.written := rfl
@[simp] theorem State.setSr_repeating (v : BitVec 16) : (s.setSr v).repeating = s.repeating := rfl

@[simp] theorem State.jump_gpr (a : Addr) : (s.jump a).gpr = s.gpr := rfl
@[simp] theorem State.jump_pc (a : Addr) : (s.jump a).pc = a := rfl
@[simp] theorem State.jump_iff (a : Addr) : (s.jump a).iff = s.iff := rfl
@[simp] theorem State.jump_rfp (a : Addr) : (s.jump a).rfp = s.rfp := rfl
@[simp] theorem State.jump_flags (a : Addr) : (s.jump a).flags = s.flags := rfl
@[simp] theorem State.jump_altFlags (a : Addr) : (s.jump a).altFlags = s.altFlags := rfl
@[simp] theorem State.jump_dmas (a : Addr) : (s.jump a).dmas = s.dmas := rfl
@[simp] theorem State.jump_dmad (a : Addr) : (s.jump a).dmad = s.dmad := rfl
@[simp] theorem State.jump_dmac (a : Addr) : (s.jump a).dmac = s.dmac := rfl
@[simp] theorem State.jump_dmam (a : Addr) : (s.jump a).dmam = s.dmam := rfl
@[simp] theorem State.jump_intnest (a : Addr) : (s.jump a).intnest = s.intnest := rfl
@[simp] theorem State.jump_halted (a : Addr) : (s.jump a).halted = s.halted := rfl
@[simp] theorem State.jump_bus (a : Addr) : (s.jump a).bus = s.bus := rfl
@[simp] theorem State.jump_inputs (a : Addr) : (s.jump a).inputs = s.inputs := rfl
@[simp] theorem State.jump_draws (a : Addr) : (s.jump a).draws = s.draws := rfl
@[simp] theorem State.jump_written (a : Addr) : (s.jump a).written = s.written := rfl
@[simp] theorem State.jump_repeating (a : Addr) : (s.jump a).repeating = s.repeating := rfl

@[simp] theorem State.drew_gpr (k : Nat) : (s.drew k).gpr = s.gpr := rfl
@[simp] theorem State.drew_pc (k : Nat) : (s.drew k).pc = s.pc := rfl
@[simp] theorem State.drew_iff (k : Nat) : (s.drew k).iff = s.iff := rfl
@[simp] theorem State.drew_rfp (k : Nat) : (s.drew k).rfp = s.rfp := rfl
@[simp] theorem State.drew_flags (k : Nat) : (s.drew k).flags = s.flags := rfl
@[simp] theorem State.drew_altFlags (k : Nat) : (s.drew k).altFlags = s.altFlags := rfl
@[simp] theorem State.drew_dmas (k : Nat) : (s.drew k).dmas = s.dmas := rfl
@[simp] theorem State.drew_dmad (k : Nat) : (s.drew k).dmad = s.dmad := rfl
@[simp] theorem State.drew_dmac (k : Nat) : (s.drew k).dmac = s.dmac := rfl
@[simp] theorem State.drew_dmam (k : Nat) : (s.drew k).dmam = s.dmam := rfl
@[simp] theorem State.drew_intnest (k : Nat) : (s.drew k).intnest = s.intnest := rfl
@[simp] theorem State.drew_halted (k : Nat) : (s.drew k).halted = s.halted := rfl
@[simp] theorem State.drew_bus (k : Nat) : (s.drew k).bus = s.bus := rfl
@[simp] theorem State.drew_inputs (k : Nat) : (s.drew k).inputs = s.inputs := rfl
@[simp] theorem State.drew_draws (k : Nat) : (s.drew k).draws = s.draws + k := rfl
@[simp] theorem State.drew_written (k : Nat) : (s.drew k).written = s.written := rfl
@[simp] theorem State.drew_repeating (k : Nat) : (s.drew k).repeating = s.repeating := rfl

@[simp] theorem State.again_gpr (i : Instr) : (s.again i).gpr = s.gpr := rfl
@[simp] theorem State.again_pc (i : Instr) : (s.again i).pc = s.pc - 2#32 := rfl
@[simp] theorem State.again_iff (i : Instr) : (s.again i).iff = s.iff := rfl
@[simp] theorem State.again_rfp (i : Instr) : (s.again i).rfp = s.rfp := rfl
@[simp] theorem State.again_flags (i : Instr) : (s.again i).flags = s.flags := rfl
@[simp] theorem State.again_altFlags (i : Instr) : (s.again i).altFlags = s.altFlags := rfl
@[simp] theorem State.again_dmas (i : Instr) : (s.again i).dmas = s.dmas := rfl
@[simp] theorem State.again_dmad (i : Instr) : (s.again i).dmad = s.dmad := rfl
@[simp] theorem State.again_dmac (i : Instr) : (s.again i).dmac = s.dmac := rfl
@[simp] theorem State.again_dmam (i : Instr) : (s.again i).dmam = s.dmam := rfl
@[simp] theorem State.again_intnest (i : Instr) : (s.again i).intnest = s.intnest := rfl
@[simp] theorem State.again_halted (i : Instr) : (s.again i).halted = s.halted := rfl
@[simp] theorem State.again_bus (i : Instr) : (s.again i).bus = s.bus := rfl
@[simp] theorem State.again_inputs (i : Instr) : (s.again i).inputs = s.inputs := rfl
@[simp] theorem State.again_draws (i : Instr) : (s.again i).draws = s.draws := rfl
@[simp] theorem State.again_written (i : Instr) : (s.again i).written = s.written := rfl
@[simp] theorem State.again_repeating (i : Instr) : (s.again i).repeating = some i := rfl

@[simp] theorem State.past_gpr (len : Nat) : (s.past len).gpr = s.gpr := rfl
@[simp] theorem State.past_pc (len : Nat) : (s.past len).pc = s.pc + BitVec.ofNat 32 len := rfl
@[simp] theorem State.past_iff (len : Nat) : (s.past len).iff = s.iff := rfl
@[simp] theorem State.past_rfp (len : Nat) : (s.past len).rfp = s.rfp := rfl
@[simp] theorem State.past_flags (len : Nat) : (s.past len).flags = s.flags := rfl
@[simp] theorem State.past_altFlags (len : Nat) : (s.past len).altFlags = s.altFlags := rfl
@[simp] theorem State.past_dmas (len : Nat) : (s.past len).dmas = s.dmas := rfl
@[simp] theorem State.past_dmad (len : Nat) : (s.past len).dmad = s.dmad := rfl
@[simp] theorem State.past_dmac (len : Nat) : (s.past len).dmac = s.dmac := rfl
@[simp] theorem State.past_dmam (len : Nat) : (s.past len).dmam = s.dmam := rfl
@[simp] theorem State.past_intnest (len : Nat) : (s.past len).intnest = s.intnest := rfl
@[simp] theorem State.past_halted (len : Nat) : (s.past len).halted = s.halted := rfl
@[simp] theorem State.past_bus (len : Nat) : (s.past len).bus = s.bus := rfl
@[simp] theorem State.past_inputs (len : Nat) : (s.past len).inputs = s.inputs := rfl
@[simp] theorem State.past_draws (len : Nat) : (s.past len).draws = s.draws := rfl
@[simp] theorem State.past_written (len : Nat) : (s.past len).written = [] := rfl
@[simp] theorem State.past_repeating (len : Nat) : (s.past len).repeating = none := rfl

@[simp] theorem State.fetched_gpr (len : Nat) : (s.fetched len).gpr = s.gpr := rfl
@[simp] theorem State.fetched_pc (len : Nat) : (s.fetched len).pc = s.pc + BitVec.ofNat 32 len := rfl
@[simp] theorem State.fetched_iff (len : Nat) : (s.fetched len).iff = s.iff := rfl
@[simp] theorem State.fetched_rfp (len : Nat) : (s.fetched len).rfp = s.rfp := rfl
@[simp] theorem State.fetched_flags (len : Nat) : (s.fetched len).flags = s.flags := rfl
@[simp] theorem State.fetched_altFlags (len : Nat) : (s.fetched len).altFlags = s.altFlags := rfl
@[simp] theorem State.fetched_dmas (len : Nat) : (s.fetched len).dmas = s.dmas := rfl
@[simp] theorem State.fetched_dmad (len : Nat) : (s.fetched len).dmad = s.dmad := rfl
@[simp] theorem State.fetched_dmac (len : Nat) : (s.fetched len).dmac = s.dmac := rfl
@[simp] theorem State.fetched_dmam (len : Nat) : (s.fetched len).dmam = s.dmam := rfl
@[simp] theorem State.fetched_intnest (len : Nat) : (s.fetched len).intnest = s.intnest := rfl
@[simp] theorem State.fetched_halted (len : Nat) : (s.fetched len).halted = s.halted := rfl
@[simp] theorem State.fetched_bus (len : Nat) : (s.fetched len).bus = s.bus.noteReads len s.pc := rfl
@[simp] theorem State.fetched_inputs (len : Nat) : (s.fetched len).inputs = s.inputs := rfl
@[simp] theorem State.fetched_draws (len : Nat) : (s.fetched len).draws = s.draws := rfl
@[simp] theorem State.fetched_written (len : Nat) : (s.fetched len).written = [] := rfl
@[simp] theorem State.fetched_repeating (len : Nat) : (s.fetched len).repeating = none := rfl

@[simp] theorem State.settled_gpr : (s.settled).gpr = s.gpr := rfl
@[simp] theorem State.settled_pc : (s.settled).pc = s.pc := rfl
@[simp] theorem State.settled_iff : (s.settled).iff = s.iff := rfl
@[simp] theorem State.settled_rfp : (s.settled).rfp = s.rfp := rfl
@[simp] theorem State.settled_flags : (s.settled).flags = s.flags := rfl
@[simp] theorem State.settled_altFlags : (s.settled).altFlags = s.altFlags := rfl
@[simp] theorem State.settled_dmas : (s.settled).dmas = s.dmas := rfl
@[simp] theorem State.settled_dmad : (s.settled).dmad = s.dmad := rfl
@[simp] theorem State.settled_dmac : (s.settled).dmac = s.dmac := rfl
@[simp] theorem State.settled_dmam : (s.settled).dmam = s.dmam := rfl
@[simp] theorem State.settled_intnest : (s.settled).intnest = s.intnest := rfl
@[simp] theorem State.settled_halted : (s.settled).halted = s.halted := rfl
@[simp] theorem State.settled_bus : (s.settled).bus = s.bus := rfl
@[simp] theorem State.settled_inputs : (s.settled).inputs = s.inputs := rfl
@[simp] theorem State.settled_draws : (s.settled).draws = s.draws := rfl
@[simp] theorem State.settled_written : (s.settled).written = [] := rfl
@[simp] theorem State.settled_repeating : (s.settled).repeating = s.repeating := rfl

/-! ### Reads that an update does not touch -/

@[simp] theorem State.kindAt_writeLong (c1 : LongReg) (v : BitVec 32) (a : Nat) : (s.writeLong c1 v).kindAt a = s.kindAt a := rfl
@[simp] theorem State.load_writeLong (c1 : LongReg) (v : BitVec 32) (y : Size) (a : Addr) : (s.writeLong c1 v).load y a = s.load y a := rfl
@[simp] theorem State.byteAt_writeLong (c1 : LongReg) (v : BitVec 32) (a : Nat) : (s.writeLong c1 v).byteAt a = s.byteAt a := rfl
@[simp] theorem State.vector_writeLong (c1 : LongReg) (v : BitVec 32) (w : BitVec 32) : (s.writeLong c1 v).vector w = s.vector w := rfl
@[simp] theorem State.sr_writeLong (c1 : LongReg) (v : BitVec 32) : (s.writeLong c1 v).sr = s.sr := rfl
@[simp] theorem State.freeBit_writeLong (c1 : LongReg) (v : BitVec 32) (k : Nat) : (s.writeLong c1 v).freeBit k = s.freeBit k := rfl
@[simp] theorem State.freeValue_writeLong (c1 : LongReg) (v : BitVec 32) (k : Nat) (y : Size) : (s.writeLong c1 v).freeValue k y = s.freeValue k y := rfl

@[simp] theorem State.kindAt_writeSel (z : Size) (c1 : RegSel) (v : BitVec z.bits) (a : Nat) : (s.writeSel z c1 v).kindAt a = s.kindAt a := rfl
@[simp] theorem State.load_writeSel (z : Size) (c1 : RegSel) (v : BitVec z.bits) (y : Size) (a : Addr) : (s.writeSel z c1 v).load y a = s.load y a := rfl
@[simp] theorem State.byteAt_writeSel (z : Size) (c1 : RegSel) (v : BitVec z.bits) (a : Nat) : (s.writeSel z c1 v).byteAt a = s.byteAt a := rfl
@[simp] theorem State.vector_writeSel (z : Size) (c1 : RegSel) (v : BitVec z.bits) (w : BitVec 32) : (s.writeSel z c1 v).vector w = s.vector w := rfl
@[simp] theorem State.sr_writeSel (z : Size) (c1 : RegSel) (v : BitVec z.bits) : (s.writeSel z c1 v).sr = s.sr := rfl
@[simp] theorem State.freeBit_writeSel (z : Size) (c1 : RegSel) (v : BitVec z.bits) (k : Nat) : (s.writeSel z c1 v).freeBit k = s.freeBit k := rfl
@[simp] theorem State.freeValue_writeSel (z : Size) (c1 : RegSel) (v : BitVec z.bits) (k : Nat) (y : Size) : (s.writeSel z c1 v).freeValue k y = s.freeValue k y := rfl

@[simp] theorem State.kindAt_writeShort (z : Size) (R1 : BitVec 3) (v : BitVec z.bits) (a : Nat) : (s.writeShort z R1 v).kindAt a = s.kindAt a := rfl
@[simp] theorem State.load_writeShort (z : Size) (R1 : BitVec 3) (v : BitVec z.bits) (y : Size) (a : Addr) : (s.writeShort z R1 v).load y a = s.load y a := rfl
@[simp] theorem State.byteAt_writeShort (z : Size) (R1 : BitVec 3) (v : BitVec z.bits) (a : Nat) : (s.writeShort z R1 v).byteAt a = s.byteAt a := rfl
@[simp] theorem State.vector_writeShort (z : Size) (R1 : BitVec 3) (v : BitVec z.bits) (w : BitVec 32) : (s.writeShort z R1 v).vector w = s.vector w := rfl
@[simp] theorem State.sr_writeShort (z : Size) (R1 : BitVec 3) (v : BitVec z.bits) : (s.writeShort z R1 v).sr = s.sr := rfl
@[simp] theorem State.freeBit_writeShort (z : Size) (R1 : BitVec 3) (v : BitVec z.bits) (k : Nat) : (s.writeShort z R1 v).freeBit k = s.freeBit k := rfl
@[simp] theorem State.freeValue_writeShort (z : Size) (R1 : BitVec 3) (v : BitVec z.bits) (k : Nat) (y : Size) : (s.writeShort z R1 v).freeValue k y = s.freeValue k y := rfl

@[simp] theorem State.kindAt_writeReg (z : Size) (r1 : RegOp) (v : BitVec z.bits) (a : Nat) : (s.writeReg z r1 v).kindAt a = s.kindAt a := rfl
@[simp] theorem State.load_writeReg (z : Size) (r1 : RegOp) (v : BitVec z.bits) (y : Size) (a : Addr) : (s.writeReg z r1 v).load y a = s.load y a := rfl
@[simp] theorem State.byteAt_writeReg (z : Size) (r1 : RegOp) (v : BitVec z.bits) (a : Nat) : (s.writeReg z r1 v).byteAt a = s.byteAt a := rfl
@[simp] theorem State.vector_writeReg (z : Size) (r1 : RegOp) (v : BitVec z.bits) (w : BitVec 32) : (s.writeReg z r1 v).vector w = s.vector w := rfl
@[simp] theorem State.sr_writeReg (z : Size) (r1 : RegOp) (v : BitVec z.bits) : (s.writeReg z r1 v).sr = s.sr := rfl
@[simp] theorem State.freeBit_writeReg (z : Size) (r1 : RegOp) (v : BitVec z.bits) (k : Nat) : (s.writeReg z r1 v).freeBit k = s.freeBit k := rfl
@[simp] theorem State.freeValue_writeReg (z : Size) (r1 : RegOp) (v : BitVec z.bits) (k : Nat) (y : Size) : (s.writeReg z r1 v).freeValue k y = s.freeValue k y := rfl

@[simp] theorem State.kindAt_setXsp (v : BitVec 32) (a : Nat) : (s.setXsp v).kindAt a = s.kindAt a := rfl
@[simp] theorem State.load_setXsp (v : BitVec 32) (y : Size) (a : Addr) : (s.setXsp v).load y a = s.load y a := rfl
@[simp] theorem State.byteAt_setXsp (v : BitVec 32) (a : Nat) : (s.setXsp v).byteAt a = s.byteAt a := rfl
@[simp] theorem State.vector_setXsp (v : BitVec 32) (w : BitVec 32) : (s.setXsp v).vector w = s.vector w := rfl
@[simp] theorem State.sr_setXsp (v : BitVec 32) : (s.setXsp v).sr = s.sr := rfl
@[simp] theorem State.freeBit_setXsp (v : BitVec 32) (k : Nat) : (s.setXsp v).freeBit k = s.freeBit k := rfl
@[simp] theorem State.freeValue_setXsp (v : BitVec 32) (k : Nat) (y : Size) : (s.setXsp v).freeValue k y = s.freeValue k y := rfl

@[simp] theorem State.sr_dropTop (z : Size) : (s.dropTop z).sr = s.sr := rfl
@[simp] theorem State.freeBit_dropTop (z : Size) (k : Nat) : (s.dropTop z).freeBit k = s.freeBit k := rfl
@[simp] theorem State.freeValue_dropTop (z : Size) (k : Nat) (y : Size) : (s.dropTop z).freeValue k y = s.freeValue k y := rfl

@[simp] theorem State.kindAt_countDown (a : Nat) : (s.countDown).kindAt a = s.kindAt a := rfl
@[simp] theorem State.load_countDown (y : Size) (a : Addr) : (s.countDown).load y a = s.load y a := rfl
@[simp] theorem State.byteAt_countDown (a : Nat) : (s.countDown).byteAt a = s.byteAt a := rfl
@[simp] theorem State.vector_countDown (w : BitVec 32) : (s.countDown).vector w = s.vector w := rfl
@[simp] theorem State.sr_countDown : (s.countDown).sr = s.sr := rfl
@[simp] theorem State.freeBit_countDown (k : Nat) : (s.countDown).freeBit k = s.freeBit k := rfl
@[simp] theorem State.freeValue_countDown (k : Nat) (y : Size) : (s.countDown).freeValue k y = s.freeValue k y := rfl

@[simp] theorem State.kindAt_movePointer (z : Size) (down : Bool) (p : LongReg) (a : Nat) : (s.movePointer z down p).kindAt a = s.kindAt a := rfl
@[simp] theorem State.load_movePointer (z : Size) (down : Bool) (p : LongReg) (y : Size) (a : Addr) : (s.movePointer z down p).load y a = s.load y a := rfl
@[simp] theorem State.byteAt_movePointer (z : Size) (down : Bool) (p : LongReg) (a : Nat) : (s.movePointer z down p).byteAt a = s.byteAt a := rfl
@[simp] theorem State.vector_movePointer (z : Size) (down : Bool) (p : LongReg) (w : BitVec 32) : (s.movePointer z down p).vector w = s.vector w := rfl
@[simp] theorem State.sr_movePointer (z : Size) (down : Bool) (p : LongReg) : (s.movePointer z down p).sr = s.sr := rfl
@[simp] theorem State.freeBit_movePointer (z : Size) (down : Bool) (p : LongReg) (k : Nat) : (s.movePointer z down p).freeBit k = s.freeBit k := rfl
@[simp] theorem State.freeValue_movePointer (z : Size) (down : Bool) (p : LongReg) (k : Nat) (y : Size) : (s.movePointer z down p).freeValue k y = s.freeValue k y := rfl

@[simp] theorem State.readLong_loaded (z : Size) (a1 : Addr) (c : LongReg) : (s.loaded z a1).readLong c = s.readLong c := rfl
@[simp] theorem State.readSel_loaded (z : Size) (a1 : Addr) (y : Size) (c : RegSel) : (s.loaded z a1).readSel y c = s.readSel y c := rfl
@[simp] theorem State.readShort_loaded (z : Size) (a1 : Addr) (y : Size) (R : BitVec 3) : (s.loaded z a1).readShort y R = s.readShort y R := rfl
@[simp] theorem State.readReg_loaded (z : Size) (a1 : Addr) (y : Size) (r : RegOp) : (s.loaded z a1).readReg y r = s.readReg y r := rfl
@[simp] theorem State.xsp_loaded (z : Size) (a1 : Addr) : (s.loaded z a1).xsp = s.xsp := rfl
@[simp] theorem State.regA_loaded (z : Size) (a1 : Addr) : (s.loaded z a1).regA = s.regA := rfl
@[simp] theorem State.lowA_loaded (z : Size) (a1 : Addr) : (s.loaded z a1).lowA = s.lowA := rfl
@[simp] theorem State.regBC_loaded (z : Size) (a1 : Addr) : (s.loaded z a1).regBC = s.regBC := rfl
@[simp] theorem State.countDone_loaded (z : Size) (a1 : Addr) : (s.loaded z a1).countDone = s.countDone := rfl
@[simp] theorem State.regByte_loaded (z : Size) (a1 : Addr) (k : Fin 20) (j : Nat) : (s.loaded z a1).regByte k j = s.regByte k j := rfl
@[simp] theorem State.sr_loaded (z : Size) (a1 : Addr) : (s.loaded z a1).sr = s.sr := rfl
@[simp] theorem State.freeBit_loaded (z : Size) (a1 : Addr) (k : Nat) : (s.loaded z a1).freeBit k = s.freeBit k := rfl
@[simp] theorem State.freeValue_loaded (z : Size) (a1 : Addr) (k : Nat) (y : Size) : (s.loaded z a1).freeValue k y = s.freeValue k y := rfl

@[simp] theorem State.readLong_store (z : Size) (a1 : Addr) (v : BitVec z.bits) (c : LongReg) : (s.store z a1 v).readLong c = s.readLong c := rfl
@[simp] theorem State.readSel_store (z : Size) (a1 : Addr) (v : BitVec z.bits) (y : Size) (c : RegSel) : (s.store z a1 v).readSel y c = s.readSel y c := rfl
@[simp] theorem State.readShort_store (z : Size) (a1 : Addr) (v : BitVec z.bits) (y : Size) (R : BitVec 3) : (s.store z a1 v).readShort y R = s.readShort y R := rfl
@[simp] theorem State.readReg_store (z : Size) (a1 : Addr) (v : BitVec z.bits) (y : Size) (r : RegOp) : (s.store z a1 v).readReg y r = s.readReg y r := rfl
@[simp] theorem State.xsp_store (z : Size) (a1 : Addr) (v : BitVec z.bits) : (s.store z a1 v).xsp = s.xsp := rfl
@[simp] theorem State.regA_store (z : Size) (a1 : Addr) (v : BitVec z.bits) : (s.store z a1 v).regA = s.regA := rfl
@[simp] theorem State.lowA_store (z : Size) (a1 : Addr) (v : BitVec z.bits) : (s.store z a1 v).lowA = s.lowA := rfl
@[simp] theorem State.regBC_store (z : Size) (a1 : Addr) (v : BitVec z.bits) : (s.store z a1 v).regBC = s.regBC := rfl
@[simp] theorem State.countDone_store (z : Size) (a1 : Addr) (v : BitVec z.bits) : (s.store z a1 v).countDone = s.countDone := rfl
@[simp] theorem State.regByte_store (z : Size) (a1 : Addr) (v : BitVec z.bits) (k : Fin 20) (j : Nat) : (s.store z a1 v).regByte k j = s.regByte k j := rfl
@[simp] theorem State.sr_store (z : Size) (a1 : Addr) (v : BitVec z.bits) : (s.store z a1 v).sr = s.sr := rfl
@[simp] theorem State.freeBit_store (z : Size) (a1 : Addr) (v : BitVec z.bits) (k : Nat) : (s.store z a1 v).freeBit k = s.freeBit k := rfl
@[simp] theorem State.freeValue_store (z : Size) (a1 : Addr) (v : BitVec z.bits) (k : Nat) (y : Size) : (s.store z a1 v).freeValue k y = s.freeValue k y := rfl

@[simp] theorem State.sr_push (z : Size) (v : BitVec z.bits) : (s.push z v).sr = s.sr := rfl
@[simp] theorem State.freeBit_push (z : Size) (v : BitVec z.bits) (k : Nat) : (s.push z v).freeBit k = s.freeBit k := rfl
@[simp] theorem State.freeValue_push (z : Size) (v : BitVec z.bits) (k : Nat) (y : Size) : (s.push z v).freeValue k y = s.freeValue k y := rfl

@[simp] theorem State.readLong_setFlags (f : Flags) (c : LongReg) : (s.setFlags f).readLong c = s.readLong c := rfl
@[simp] theorem State.readSel_setFlags (f : Flags) (y : Size) (c : RegSel) : (s.setFlags f).readSel y c = s.readSel y c := rfl
@[simp] theorem State.readShort_setFlags (f : Flags) (y : Size) (R : BitVec 3) : (s.setFlags f).readShort y R = s.readShort y R := rfl
@[simp] theorem State.readReg_setFlags (f : Flags) (y : Size) (r : RegOp) : (s.setFlags f).readReg y r = s.readReg y r := rfl
@[simp] theorem State.xsp_setFlags (f : Flags) : (s.setFlags f).xsp = s.xsp := rfl
@[simp] theorem State.regA_setFlags (f : Flags) : (s.setFlags f).regA = s.regA := rfl
@[simp] theorem State.lowA_setFlags (f : Flags) : (s.setFlags f).lowA = s.lowA := rfl
@[simp] theorem State.regBC_setFlags (f : Flags) : (s.setFlags f).regBC = s.regBC := rfl
@[simp] theorem State.countDone_setFlags (f : Flags) : (s.setFlags f).countDone = s.countDone := rfl
@[simp] theorem State.regByte_setFlags (f : Flags) (k : Fin 20) (j : Nat) : (s.setFlags f).regByte k j = s.regByte k j := rfl
@[simp] theorem State.kindAt_setFlags (f : Flags) (a : Nat) : (s.setFlags f).kindAt a = s.kindAt a := rfl
@[simp] theorem State.load_setFlags (f : Flags) (y : Size) (a : Addr) : (s.setFlags f).load y a = s.load y a := rfl
@[simp] theorem State.byteAt_setFlags (f : Flags) (a : Nat) : (s.setFlags f).byteAt a = s.byteAt a := rfl
@[simp] theorem State.vector_setFlags (f : Flags) (w : BitVec 32) : (s.setFlags f).vector w = s.vector w := rfl
@[simp] theorem State.top_setFlags (f : Flags) (y : Size) : (s.setFlags f).top y = s.top y := rfl
@[simp] theorem State.freeBit_setFlags (f : Flags) (k : Nat) : (s.setFlags f).freeBit k = s.freeBit k := rfl
@[simp] theorem State.freeValue_setFlags (f : Flags) (k : Nat) (y : Size) : (s.setFlags f).freeValue k y = s.freeValue k y := rfl

@[simp] theorem State.readLong_setCarry (b : Bool) (c : LongReg) : (s.setCarry b).readLong c = s.readLong c := rfl
@[simp] theorem State.readSel_setCarry (b : Bool) (y : Size) (c : RegSel) : (s.setCarry b).readSel y c = s.readSel y c := rfl
@[simp] theorem State.readShort_setCarry (b : Bool) (y : Size) (R : BitVec 3) : (s.setCarry b).readShort y R = s.readShort y R := rfl
@[simp] theorem State.readReg_setCarry (b : Bool) (y : Size) (r : RegOp) : (s.setCarry b).readReg y r = s.readReg y r := rfl
@[simp] theorem State.xsp_setCarry (b : Bool) : (s.setCarry b).xsp = s.xsp := rfl
@[simp] theorem State.regA_setCarry (b : Bool) : (s.setCarry b).regA = s.regA := rfl
@[simp] theorem State.lowA_setCarry (b : Bool) : (s.setCarry b).lowA = s.lowA := rfl
@[simp] theorem State.regBC_setCarry (b : Bool) : (s.setCarry b).regBC = s.regBC := rfl
@[simp] theorem State.countDone_setCarry (b : Bool) : (s.setCarry b).countDone = s.countDone := rfl
@[simp] theorem State.regByte_setCarry (b : Bool) (k : Fin 20) (j : Nat) : (s.setCarry b).regByte k j = s.regByte k j := rfl
@[simp] theorem State.kindAt_setCarry (b : Bool) (a : Nat) : (s.setCarry b).kindAt a = s.kindAt a := rfl
@[simp] theorem State.load_setCarry (b : Bool) (y : Size) (a : Addr) : (s.setCarry b).load y a = s.load y a := rfl
@[simp] theorem State.byteAt_setCarry (b : Bool) (a : Nat) : (s.setCarry b).byteAt a = s.byteAt a := rfl
@[simp] theorem State.vector_setCarry (b : Bool) (w : BitVec 32) : (s.setCarry b).vector w = s.vector w := rfl
@[simp] theorem State.top_setCarry (b : Bool) (y : Size) : (s.setCarry b).top y = s.top y := rfl
@[simp] theorem State.freeBit_setCarry (b : Bool) (k : Nat) : (s.setCarry b).freeBit k = s.freeBit k := rfl
@[simp] theorem State.freeValue_setCarry (b : Bool) (k : Nat) (y : Size) : (s.setCarry b).freeValue k y = s.freeValue k y := rfl

@[simp] theorem State.readLong_transferFlags (v : Bool) (c : LongReg) : (s.transferFlags v).readLong c = s.readLong c := rfl
@[simp] theorem State.readSel_transferFlags (v : Bool) (y : Size) (c : RegSel) : (s.transferFlags v).readSel y c = s.readSel y c := rfl
@[simp] theorem State.readShort_transferFlags (v : Bool) (y : Size) (R : BitVec 3) : (s.transferFlags v).readShort y R = s.readShort y R := rfl
@[simp] theorem State.readReg_transferFlags (v : Bool) (y : Size) (r : RegOp) : (s.transferFlags v).readReg y r = s.readReg y r := rfl
@[simp] theorem State.xsp_transferFlags (v : Bool) : (s.transferFlags v).xsp = s.xsp := rfl
@[simp] theorem State.regA_transferFlags (v : Bool) : (s.transferFlags v).regA = s.regA := rfl
@[simp] theorem State.lowA_transferFlags (v : Bool) : (s.transferFlags v).lowA = s.lowA := rfl
@[simp] theorem State.regBC_transferFlags (v : Bool) : (s.transferFlags v).regBC = s.regBC := rfl
@[simp] theorem State.countDone_transferFlags (v : Bool) : (s.transferFlags v).countDone = s.countDone := rfl
@[simp] theorem State.regByte_transferFlags (v : Bool) (k : Fin 20) (j : Nat) : (s.transferFlags v).regByte k j = s.regByte k j := rfl
@[simp] theorem State.kindAt_transferFlags (v : Bool) (a : Nat) : (s.transferFlags v).kindAt a = s.kindAt a := rfl
@[simp] theorem State.load_transferFlags (v : Bool) (y : Size) (a : Addr) : (s.transferFlags v).load y a = s.load y a := rfl
@[simp] theorem State.byteAt_transferFlags (v : Bool) (a : Nat) : (s.transferFlags v).byteAt a = s.byteAt a := rfl
@[simp] theorem State.vector_transferFlags (v : Bool) (w : BitVec 32) : (s.transferFlags v).vector w = s.vector w := rfl
@[simp] theorem State.top_transferFlags (v : Bool) (y : Size) : (s.transferFlags v).top y = s.top y := rfl
@[simp] theorem State.freeBit_transferFlags (v : Bool) (k : Nat) : (s.transferFlags v).freeBit k = s.freeBit k := rfl
@[simp] theorem State.freeValue_transferFlags (v : Bool) (k : Nat) (y : Size) : (s.transferFlags v).freeValue k y = s.freeValue k y := rfl

@[simp] theorem State.regByte_setSr (v : BitVec 16) (k : Fin 20) (j : Nat) : (s.setSr v).regByte k j = s.regByte k j := rfl
@[simp] theorem State.kindAt_setSr (v : BitVec 16) (a : Nat) : (s.setSr v).kindAt a = s.kindAt a := rfl
@[simp] theorem State.load_setSr (v : BitVec 16) (y : Size) (a : Addr) : (s.setSr v).load y a = s.load y a := rfl
@[simp] theorem State.byteAt_setSr (v : BitVec 16) (a : Nat) : (s.setSr v).byteAt a = s.byteAt a := rfl
@[simp] theorem State.vector_setSr (v : BitVec 16) (w : BitVec 32) : (s.setSr v).vector w = s.vector w := rfl
@[simp] theorem State.freeBit_setSr (v : BitVec 16) (k : Nat) : (s.setSr v).freeBit k = s.freeBit k := rfl
@[simp] theorem State.freeValue_setSr (v : BitVec 16) (k : Nat) (y : Size) : (s.setSr v).freeValue k y = s.freeValue k y := rfl

@[simp] theorem State.readLong_jump (a1 : Addr) (c : LongReg) : (s.jump a1).readLong c = s.readLong c := rfl
@[simp] theorem State.readSel_jump (a1 : Addr) (y : Size) (c : RegSel) : (s.jump a1).readSel y c = s.readSel y c := rfl
@[simp] theorem State.readShort_jump (a1 : Addr) (y : Size) (R : BitVec 3) : (s.jump a1).readShort y R = s.readShort y R := rfl
@[simp] theorem State.readReg_jump (a1 : Addr) (y : Size) (r : RegOp) : (s.jump a1).readReg y r = s.readReg y r := rfl
@[simp] theorem State.xsp_jump (a1 : Addr) : (s.jump a1).xsp = s.xsp := rfl
@[simp] theorem State.regA_jump (a1 : Addr) : (s.jump a1).regA = s.regA := rfl
@[simp] theorem State.lowA_jump (a1 : Addr) : (s.jump a1).lowA = s.lowA := rfl
@[simp] theorem State.regBC_jump (a1 : Addr) : (s.jump a1).regBC = s.regBC := rfl
@[simp] theorem State.countDone_jump (a1 : Addr) : (s.jump a1).countDone = s.countDone := rfl
@[simp] theorem State.regByte_jump (a1 : Addr) (k : Fin 20) (j : Nat) : (s.jump a1).regByte k j = s.regByte k j := rfl
@[simp] theorem State.kindAt_jump (a1 : Addr) (a : Nat) : (s.jump a1).kindAt a = s.kindAt a := rfl
@[simp] theorem State.load_jump (a1 : Addr) (y : Size) (a : Addr) : (s.jump a1).load y a = s.load y a := rfl
@[simp] theorem State.byteAt_jump (a1 : Addr) (a : Nat) : (s.jump a1).byteAt a = s.byteAt a := rfl
@[simp] theorem State.vector_jump (a1 : Addr) (w : BitVec 32) : (s.jump a1).vector w = s.vector w := rfl
@[simp] theorem State.top_jump (a1 : Addr) (y : Size) : (s.jump a1).top y = s.top y := rfl
@[simp] theorem State.sr_jump (a1 : Addr) : (s.jump a1).sr = s.sr := rfl
@[simp] theorem State.freeBit_jump (a1 : Addr) (k : Nat) : (s.jump a1).freeBit k = s.freeBit k := rfl
@[simp] theorem State.freeValue_jump (a1 : Addr) (k : Nat) (y : Size) : (s.jump a1).freeValue k y = s.freeValue k y := rfl

@[simp] theorem State.readLong_drew (k1 : Nat) (c : LongReg) : (s.drew k1).readLong c = s.readLong c := rfl
@[simp] theorem State.readSel_drew (k1 : Nat) (y : Size) (c : RegSel) : (s.drew k1).readSel y c = s.readSel y c := rfl
@[simp] theorem State.readShort_drew (k1 : Nat) (y : Size) (R : BitVec 3) : (s.drew k1).readShort y R = s.readShort y R := rfl
@[simp] theorem State.readReg_drew (k1 : Nat) (y : Size) (r : RegOp) : (s.drew k1).readReg y r = s.readReg y r := rfl
@[simp] theorem State.xsp_drew (k1 : Nat) : (s.drew k1).xsp = s.xsp := rfl
@[simp] theorem State.regA_drew (k1 : Nat) : (s.drew k1).regA = s.regA := rfl
@[simp] theorem State.lowA_drew (k1 : Nat) : (s.drew k1).lowA = s.lowA := rfl
@[simp] theorem State.regBC_drew (k1 : Nat) : (s.drew k1).regBC = s.regBC := rfl
@[simp] theorem State.countDone_drew (k1 : Nat) : (s.drew k1).countDone = s.countDone := rfl
@[simp] theorem State.regByte_drew (k1 : Nat) (k : Fin 20) (j : Nat) : (s.drew k1).regByte k j = s.regByte k j := rfl
@[simp] theorem State.kindAt_drew (k1 : Nat) (a : Nat) : (s.drew k1).kindAt a = s.kindAt a := rfl
@[simp] theorem State.load_drew (k1 : Nat) (y : Size) (a : Addr) : (s.drew k1).load y a = s.load y a := rfl
@[simp] theorem State.byteAt_drew (k1 : Nat) (a : Nat) : (s.drew k1).byteAt a = s.byteAt a := rfl
@[simp] theorem State.vector_drew (k1 : Nat) (w : BitVec 32) : (s.drew k1).vector w = s.vector w := rfl
@[simp] theorem State.top_drew (k1 : Nat) (y : Size) : (s.drew k1).top y = s.top y := rfl
@[simp] theorem State.sr_drew (k1 : Nat) : (s.drew k1).sr = s.sr := rfl

@[simp] theorem State.readLong_again (i : Instr) (c : LongReg) : (s.again i).readLong c = s.readLong c := rfl
@[simp] theorem State.readSel_again (i : Instr) (y : Size) (c : RegSel) : (s.again i).readSel y c = s.readSel y c := rfl
@[simp] theorem State.readShort_again (i : Instr) (y : Size) (R : BitVec 3) : (s.again i).readShort y R = s.readShort y R := rfl
@[simp] theorem State.readReg_again (i : Instr) (y : Size) (r : RegOp) : (s.again i).readReg y r = s.readReg y r := rfl
@[simp] theorem State.xsp_again (i : Instr) : (s.again i).xsp = s.xsp := rfl
@[simp] theorem State.regA_again (i : Instr) : (s.again i).regA = s.regA := rfl
@[simp] theorem State.lowA_again (i : Instr) : (s.again i).lowA = s.lowA := rfl
@[simp] theorem State.regBC_again (i : Instr) : (s.again i).regBC = s.regBC := rfl
@[simp] theorem State.countDone_again (i : Instr) : (s.again i).countDone = s.countDone := rfl
@[simp] theorem State.regByte_again (i : Instr) (k : Fin 20) (j : Nat) : (s.again i).regByte k j = s.regByte k j := rfl
@[simp] theorem State.kindAt_again (i : Instr) (a : Nat) : (s.again i).kindAt a = s.kindAt a := rfl
@[simp] theorem State.load_again (i : Instr) (y : Size) (a : Addr) : (s.again i).load y a = s.load y a := rfl
@[simp] theorem State.byteAt_again (i : Instr) (a : Nat) : (s.again i).byteAt a = s.byteAt a := rfl
@[simp] theorem State.vector_again (i : Instr) (w : BitVec 32) : (s.again i).vector w = s.vector w := rfl
@[simp] theorem State.top_again (i : Instr) (y : Size) : (s.again i).top y = s.top y := rfl
@[simp] theorem State.sr_again (i : Instr) : (s.again i).sr = s.sr := rfl
@[simp] theorem State.freeBit_again (i : Instr) (k : Nat) : (s.again i).freeBit k = s.freeBit k := rfl
@[simp] theorem State.freeValue_again (i : Instr) (k : Nat) (y : Size) : (s.again i).freeValue k y = s.freeValue k y := rfl

@[simp] theorem State.readLong_past (len : Nat) (c : LongReg) : (s.past len).readLong c = s.readLong c := rfl
@[simp] theorem State.readSel_past (len : Nat) (y : Size) (c : RegSel) : (s.past len).readSel y c = s.readSel y c := rfl
@[simp] theorem State.readShort_past (len : Nat) (y : Size) (R : BitVec 3) : (s.past len).readShort y R = s.readShort y R := rfl
@[simp] theorem State.readReg_past (len : Nat) (y : Size) (r : RegOp) : (s.past len).readReg y r = s.readReg y r := rfl
@[simp] theorem State.xsp_past (len : Nat) : (s.past len).xsp = s.xsp := rfl
@[simp] theorem State.regA_past (len : Nat) : (s.past len).regA = s.regA := rfl
@[simp] theorem State.lowA_past (len : Nat) : (s.past len).lowA = s.lowA := rfl
@[simp] theorem State.regBC_past (len : Nat) : (s.past len).regBC = s.regBC := rfl
@[simp] theorem State.countDone_past (len : Nat) : (s.past len).countDone = s.countDone := rfl
@[simp] theorem State.regByte_past (len : Nat) (k : Fin 20) (j : Nat) : (s.past len).regByte k j = s.regByte k j := rfl
@[simp] theorem State.kindAt_past (len : Nat) (a : Nat) : (s.past len).kindAt a = s.kindAt a := rfl
@[simp] theorem State.load_past (len : Nat) (y : Size) (a : Addr) : (s.past len).load y a = s.load y a := rfl
@[simp] theorem State.byteAt_past (len : Nat) (a : Nat) : (s.past len).byteAt a = s.byteAt a := rfl
@[simp] theorem State.vector_past (len : Nat) (w : BitVec 32) : (s.past len).vector w = s.vector w := rfl
@[simp] theorem State.top_past (len : Nat) (y : Size) : (s.past len).top y = s.top y := rfl
@[simp] theorem State.sr_past (len : Nat) : (s.past len).sr = s.sr := rfl
@[simp] theorem State.freeBit_past (len : Nat) (k : Nat) : (s.past len).freeBit k = s.freeBit k := rfl
@[simp] theorem State.freeValue_past (len : Nat) (k : Nat) (y : Size) : (s.past len).freeValue k y = s.freeValue k y := rfl

@[simp] theorem State.readLong_fetched (len : Nat) (c : LongReg) : (s.fetched len).readLong c = s.readLong c := rfl
@[simp] theorem State.readSel_fetched (len : Nat) (y : Size) (c : RegSel) : (s.fetched len).readSel y c = s.readSel y c := rfl
@[simp] theorem State.readShort_fetched (len : Nat) (y : Size) (R : BitVec 3) : (s.fetched len).readShort y R = s.readShort y R := rfl
@[simp] theorem State.readReg_fetched (len : Nat) (y : Size) (r : RegOp) : (s.fetched len).readReg y r = s.readReg y r := rfl
@[simp] theorem State.xsp_fetched (len : Nat) : (s.fetched len).xsp = s.xsp := rfl
@[simp] theorem State.regA_fetched (len : Nat) : (s.fetched len).regA = s.regA := rfl
@[simp] theorem State.lowA_fetched (len : Nat) : (s.fetched len).lowA = s.lowA := rfl
@[simp] theorem State.regBC_fetched (len : Nat) : (s.fetched len).regBC = s.regBC := rfl
@[simp] theorem State.countDone_fetched (len : Nat) : (s.fetched len).countDone = s.countDone := rfl
@[simp] theorem State.regByte_fetched (len : Nat) (k : Fin 20) (j : Nat) : (s.fetched len).regByte k j = s.regByte k j := rfl
@[simp] theorem State.sr_fetched (len : Nat) : (s.fetched len).sr = s.sr := rfl
@[simp] theorem State.freeBit_fetched (len : Nat) (k : Nat) : (s.fetched len).freeBit k = s.freeBit k := rfl
@[simp] theorem State.freeValue_fetched (len : Nat) (k : Nat) (y : Size) : (s.fetched len).freeValue k y = s.freeValue k y := rfl

@[simp] theorem State.readLong_settled (c : LongReg) : (s.settled).readLong c = s.readLong c := rfl
@[simp] theorem State.readSel_settled (y : Size) (c : RegSel) : (s.settled).readSel y c = s.readSel y c := rfl
@[simp] theorem State.readShort_settled (y : Size) (R : BitVec 3) : (s.settled).readShort y R = s.readShort y R := rfl
@[simp] theorem State.readReg_settled (y : Size) (r : RegOp) : (s.settled).readReg y r = s.readReg y r := rfl
@[simp] theorem State.xsp_settled : (s.settled).xsp = s.xsp := rfl
@[simp] theorem State.regA_settled : (s.settled).regA = s.regA := rfl
@[simp] theorem State.lowA_settled : (s.settled).lowA = s.lowA := rfl
@[simp] theorem State.regBC_settled : (s.settled).regBC = s.regBC := rfl
@[simp] theorem State.countDone_settled : (s.settled).countDone = s.countDone := rfl
@[simp] theorem State.regByte_settled (k : Fin 20) (j : Nat) : (s.settled).regByte k j = s.regByte k j := rfl
@[simp] theorem State.kindAt_settled (a : Nat) : (s.settled).kindAt a = s.kindAt a := rfl
@[simp] theorem State.load_settled (y : Size) (a : Addr) : (s.settled).load y a = s.load y a := rfl
@[simp] theorem State.byteAt_settled (a : Nat) : (s.settled).byteAt a = s.byteAt a := rfl
@[simp] theorem State.vector_settled (w : BitVec 32) : (s.settled).vector w = s.vector w := rfl
@[simp] theorem State.top_settled (y : Size) : (s.settled).top y = s.top y := rfl
@[simp] theorem State.sr_settled : (s.settled).sr = s.sr := rfl
@[simp] theorem State.freeBit_settled (k : Nat) : (s.settled).freeBit k = s.freeBit k := rfl
@[simp] theorem State.freeValue_settled (k : Nat) (y : Size) : (s.settled).freeValue k y = s.freeValue k y := rfl

/-! ### Reading the fields of a control register and of an addressing mode -/

@[simp] theorem State.readControl_writeLong (c : LongReg) (v : BitVec 32) (k' : ControlReg) :
    (s.writeLong c v).readControl k' = s.readControl k' := by
  cases k' <;> rfl

@[simp] theorem State.readControl_writeSel (z : Size) (c : RegSel) (v : BitVec z.bits) (k' : ControlReg) :
    (s.writeSel z c v).readControl k' = s.readControl k' := by
  cases k' <;> rfl

@[simp] theorem State.readControl_writeShort (z : Size) (R : BitVec 3) (v : BitVec z.bits) (k' : ControlReg) :
    (s.writeShort z R v).readControl k' = s.readControl k' := by
  cases k' <;> rfl

@[simp] theorem State.readControl_writeReg (z : Size) (r : RegOp) (v : BitVec z.bits) (k' : ControlReg) :
    (s.writeReg z r v).readControl k' = s.readControl k' := by
  cases k' <;> rfl

@[simp] theorem State.readControl_setXsp (v : BitVec 32) (k' : ControlReg) :
    (s.setXsp v).readControl k' = s.readControl k' := by
  cases k' <;> rfl

@[simp] theorem State.readControl_dropTop (z : Size) (k' : ControlReg) :
    (s.dropTop z).readControl k' = s.readControl k' := by
  cases k' <;> rfl

@[simp] theorem State.readControl_countDown (k' : ControlReg) :
    (s.countDown).readControl k' = s.readControl k' := by
  cases k' <;> rfl

@[simp] theorem State.readControl_movePointer (z : Size) (down : Bool) (p : LongReg) (k' : ControlReg) :
    (s.movePointer z down p).readControl k' = s.readControl k' := by
  cases k' <;> rfl

@[simp] theorem State.readControl_loaded (z : Size) (a : Addr) (k' : ControlReg) :
    (s.loaded z a).readControl k' = s.readControl k' := by
  cases k' <;> rfl

@[simp] theorem State.ea_loaded (z : Size) (a : Addr) (m : MemOp) : (s.loaded z a).ea m = s.ea m := by
  cases m <;> rfl

@[simp] theorem State.readControl_store (z : Size) (a : Addr) (v : BitVec z.bits) (k' : ControlReg) :
    (s.store z a v).readControl k' = s.readControl k' := by
  cases k' <;> rfl

@[simp] theorem State.ea_store (z : Size) (a : Addr) (v : BitVec z.bits) (m : MemOp) : (s.store z a v).ea m = s.ea m := by
  cases m <;> rfl

@[simp] theorem State.readControl_push (z : Size) (v : BitVec z.bits) (k' : ControlReg) :
    (s.push z v).readControl k' = s.readControl k' := by
  cases k' <;> rfl

@[simp] theorem State.readControl_setFlags (f : Flags) (k' : ControlReg) :
    (s.setFlags f).readControl k' = s.readControl k' := by
  cases k' <;> rfl

@[simp] theorem State.ea_setFlags (f : Flags) (m : MemOp) : (s.setFlags f).ea m = s.ea m := by
  cases m <;> rfl

@[simp] theorem State.readControl_setCarry (b : Bool) (k' : ControlReg) :
    (s.setCarry b).readControl k' = s.readControl k' := by
  cases k' <;> rfl

@[simp] theorem State.ea_setCarry (b : Bool) (m : MemOp) : (s.setCarry b).ea m = s.ea m := by
  cases m <;> rfl

@[simp] theorem State.readControl_transferFlags (v : Bool) (k' : ControlReg) :
    (s.transferFlags v).readControl k' = s.readControl k' := by
  cases k' <;> rfl

@[simp] theorem State.ea_transferFlags (v : Bool) (m : MemOp) : (s.transferFlags v).ea m = s.ea m := by
  cases m <;> rfl

@[simp] theorem State.readControl_setSr (v : BitVec 16) (k' : ControlReg) :
    (s.setSr v).readControl k' = s.readControl k' := by
  cases k' <;> rfl

@[simp] theorem State.readControl_jump (a : Addr) (k' : ControlReg) :
    (s.jump a).readControl k' = s.readControl k' := by
  cases k' <;> rfl

@[simp] theorem State.ea_jump (a : Addr) (m : MemOp) : (s.jump a).ea m = s.ea m := by
  cases m <;> rfl

@[simp] theorem State.readControl_drew (k : Nat) (k' : ControlReg) :
    (s.drew k).readControl k' = s.readControl k' := by
  cases k' <;> rfl

@[simp] theorem State.ea_drew (k : Nat) (m : MemOp) : (s.drew k).ea m = s.ea m := by
  cases m <;> rfl

@[simp] theorem State.readControl_again (i : Instr) (k' : ControlReg) :
    (s.again i).readControl k' = s.readControl k' := by
  cases k' <;> rfl

@[simp] theorem State.ea_again (i : Instr) (m : MemOp) : (s.again i).ea m = s.ea m := by
  cases m <;> rfl

@[simp] theorem State.readControl_past (len : Nat) (k' : ControlReg) :
    (s.past len).readControl k' = s.readControl k' := by
  cases k' <;> rfl

@[simp] theorem State.ea_past (len : Nat) (m : MemOp) : (s.past len).ea m = s.ea m := by
  cases m <;> rfl

@[simp] theorem State.readControl_fetched (len : Nat) (k' : ControlReg) :
    (s.fetched len).readControl k' = s.readControl k' := by
  cases k' <;> rfl

@[simp] theorem State.ea_fetched (len : Nat) (m : MemOp) : (s.fetched len).ea m = s.ea m := by
  cases m <;> rfl

@[simp] theorem State.readControl_settled (k' : ControlReg) :
    (s.settled).readControl k' = s.readControl k' := by
  cases k' <;> rfl

@[simp] theorem State.ea_settled (m : MemOp) : (s.settled).ea m = s.ea m := by
  cases m <;> rfl

@[simp] theorem State.advance_pc (m : MemOp) : (s.advance m).pc = s.pc := by
  cases m <;> rfl

@[simp] theorem State.advance_iff (m : MemOp) : (s.advance m).iff = s.iff := by
  cases m <;> rfl

@[simp] theorem State.advance_rfp (m : MemOp) : (s.advance m).rfp = s.rfp := by
  cases m <;> rfl

@[simp] theorem State.advance_flags (m : MemOp) : (s.advance m).flags = s.flags := by
  cases m <;> rfl

@[simp] theorem State.advance_altFlags (m : MemOp) : (s.advance m).altFlags = s.altFlags := by
  cases m <;> rfl

@[simp] theorem State.advance_dmas (m : MemOp) : (s.advance m).dmas = s.dmas := by
  cases m <;> rfl

@[simp] theorem State.advance_dmad (m : MemOp) : (s.advance m).dmad = s.dmad := by
  cases m <;> rfl

@[simp] theorem State.advance_dmac (m : MemOp) : (s.advance m).dmac = s.dmac := by
  cases m <;> rfl

@[simp] theorem State.advance_dmam (m : MemOp) : (s.advance m).dmam = s.dmam := by
  cases m <;> rfl

@[simp] theorem State.advance_intnest (m : MemOp) : (s.advance m).intnest = s.intnest := by
  cases m <;> rfl

@[simp] theorem State.advance_halted (m : MemOp) : (s.advance m).halted = s.halted := by
  cases m <;> rfl

@[simp] theorem State.advance_bus (m : MemOp) : (s.advance m).bus = s.bus := by
  cases m <;> rfl

@[simp] theorem State.advance_inputs (m : MemOp) : (s.advance m).inputs = s.inputs := by
  cases m <;> rfl

@[simp] theorem State.advance_draws (m : MemOp) : (s.advance m).draws = s.draws := by
  cases m <;> rfl

@[simp] theorem State.advance_written (m : MemOp) : (s.advance m).written = s.written := by
  cases m <;> rfl

@[simp] theorem State.advance_repeating (m : MemOp) : (s.advance m).repeating = s.repeating := by
  cases m <;> rfl

@[simp] theorem State.load_advance (m : MemOp) (y : Size) (a : Addr) :
    (s.advance m).load y a = s.load y a := by
  cases m <;> rfl

@[simp] theorem State.kindAt_advance (m : MemOp) (a : Nat) :
    (s.advance m).kindAt a = s.kindAt a := by
  cases m <;> rfl

@[simp] theorem State.byteAt_advance (m : MemOp) (a : Nat) :
    (s.advance m).byteAt a = s.byteAt a := by
  cases m <;> rfl

@[simp] theorem State.sr_advance (m : MemOp) :
    (s.advance m).sr = s.sr := by
  cases m <;> rfl

@[simp] theorem State.freeBit_advance (m : MemOp) (k : Nat) :
    (s.advance m).freeBit k = s.freeBit k := by
  cases m <;> rfl

@[simp] theorem State.freeValue_advance (m : MemOp) (k : Nat) (y : Size) :
    (s.advance m).freeValue k y = s.freeValue k y := by
  cases m <;> rfl

/-! ### The state after a memory operand is read -/

@[simp] theorem State.afterRead_pc (z : Size) (m : MemOp) : (s.afterRead z m).pc = s.pc := by
  cases m <;> rfl

@[simp] theorem State.afterRead_iff (z : Size) (m : MemOp) : (s.afterRead z m).iff = s.iff := by
  cases m <;> rfl

@[simp] theorem State.afterRead_rfp (z : Size) (m : MemOp) : (s.afterRead z m).rfp = s.rfp := by
  cases m <;> rfl

@[simp] theorem State.afterRead_flags (z : Size) (m : MemOp) : (s.afterRead z m).flags = s.flags := by
  cases m <;> rfl

@[simp] theorem State.afterRead_altFlags (z : Size) (m : MemOp) : (s.afterRead z m).altFlags = s.altFlags := by
  cases m <;> rfl

@[simp] theorem State.afterRead_dmas (z : Size) (m : MemOp) : (s.afterRead z m).dmas = s.dmas := by
  cases m <;> rfl

@[simp] theorem State.afterRead_dmad (z : Size) (m : MemOp) : (s.afterRead z m).dmad = s.dmad := by
  cases m <;> rfl

@[simp] theorem State.afterRead_dmac (z : Size) (m : MemOp) : (s.afterRead z m).dmac = s.dmac := by
  cases m <;> rfl

@[simp] theorem State.afterRead_dmam (z : Size) (m : MemOp) : (s.afterRead z m).dmam = s.dmam := by
  cases m <;> rfl

@[simp] theorem State.afterRead_intnest (z : Size) (m : MemOp) : (s.afterRead z m).intnest = s.intnest := by
  cases m <;> rfl

@[simp] theorem State.afterRead_halted (z : Size) (m : MemOp) : (s.afterRead z m).halted = s.halted := by
  cases m <;> rfl

@[simp] theorem State.afterRead_inputs (z : Size) (m : MemOp) : (s.afterRead z m).inputs = s.inputs := by
  cases m <;> rfl

@[simp] theorem State.afterRead_draws (z : Size) (m : MemOp) : (s.afterRead z m).draws = s.draws := by
  cases m <;> rfl

@[simp] theorem State.afterRead_written (z : Size) (m : MemOp) : (s.afterRead z m).written = s.written := by
  cases m <;> rfl

@[simp] theorem State.afterRead_repeating (z : Size) (m : MemOp) : (s.afterRead z m).repeating = s.repeating := by
  cases m <;> rfl

@[simp] theorem State.afterRead_gpr (z : Size) (m : MemOp) :
    (s.afterRead z m).gpr = (s.advance m).gpr := rfl

@[simp] theorem State.afterRead_bus (z : Size) (m : MemOp) :
    (s.afterRead z m).bus = s.bus.noteReads z.bytes (s.ea m) := by
  cases m <;> rfl

@[simp] theorem State.readLong_afterRead (z : Size) (m : MemOp) (c : LongReg) :
    (s.afterRead z m).readLong c = (s.advance m).readLong c := rfl

@[simp] theorem State.readSel_afterRead (z : Size) (m : MemOp) (y : Size) (c : RegSel) :
    (s.afterRead z m).readSel y c = (s.advance m).readSel y c := rfl

@[simp] theorem State.readShort_afterRead (z : Size) (m : MemOp) (y : Size) (R : BitVec 3) :
    (s.afterRead z m).readShort y R = (s.advance m).readShort y R := rfl

@[simp] theorem State.readReg_afterRead (z : Size) (m : MemOp) (y : Size) (r : RegOp) :
    (s.afterRead z m).readReg y r = (s.advance m).readReg y r := rfl

@[simp] theorem State.xsp_afterRead (z : Size) (m : MemOp) :
    (s.afterRead z m).xsp = (s.advance m).xsp := rfl

@[simp] theorem State.regA_afterRead (z : Size) (m : MemOp) :
    (s.afterRead z m).regA = (s.advance m).regA := rfl

@[simp] theorem State.lowA_afterRead (z : Size) (m : MemOp) :
    (s.afterRead z m).lowA = (s.advance m).lowA := rfl

@[simp] theorem State.regBC_afterRead (z : Size) (m : MemOp) :
    (s.afterRead z m).regBC = (s.advance m).regBC := rfl

@[simp] theorem State.countDone_afterRead (z : Size) (m : MemOp) :
    (s.afterRead z m).countDone = (s.advance m).countDone := rfl

@[simp] theorem State.regByte_afterRead (z : Size) (m : MemOp) (k : Fin 20) (j : Nat) :
    (s.afterRead z m).regByte k j = (s.advance m).regByte k j := rfl

end Sys2Proof.Machine
end

