-- ==== Sys2Proof/Laws/Memory.lean ====
section
/-! SUPPORT. The laws of memory and of the address space: what a read sees after a write, what devices
see of an access, and that every operation keeps the memory map and the canonical form. -/

namespace Sys2Proof.Machine

/-! ### One byte -/

theorem Memory.read_erase_same (m : Memory) (a : Nat) : (m.erase a).read a = Config.unlistedByte := by
  induction m with
  | nil => rfl
  | cons c t ih =>
    by_cases h : c.1 = a
    · simpa [Memory.erase, h] using ih
    · simpa [Memory.erase, h, Memory.read] using ih

theorem Memory.read_erase_ne (m : Memory) {a b : Nat} (h : b ≠ a) : (m.erase a).read b = m.read b := by
  induction m with
  | nil => rfl
  | cons c t ih =>
    by_cases hc : c.1 = a
    · simpa [Memory.erase, hc, Memory.read, h.symm] using ih
    · by_cases hb : c.1 = b
      · simp [Memory.erase, Memory.read, hb, h]
      · simpa [Memory.erase, hc, Memory.read, hb] using ih

theorem Memory.read_insert_ne (m : Memory) {a b : Nat} (v : Byte) (h : b ≠ a) :
    (m.insert a v).read b = m.read b := by
  induction m with
  | nil => simp [Memory.insert, Memory.read, h.symm]
  | cons c t ih =>
    by_cases hc : a < c.1
    · simp [Memory.insert, hc, Memory.read, h.symm]
    · by_cases hb : c.1 = b
      · rw [Memory.insert, if_neg hc, Memory.read, Memory.read, if_pos hb, if_pos hb]
      · simp [Memory.insert, hc, Memory.read, hb, ih]

theorem Memory.read_insert_same (m : Memory) (a : Nat) (v : Byte) (h : ∀ c ∈ m, c.1 ≠ a) :
    (m.insert a v).read a = v := by
  induction m with
  | nil => simp [Memory.insert, Memory.read]
  | cons c t ih =>
    by_cases hc : a < c.1
    · simp [Memory.insert, hc, Memory.read]
    · have := ih fun d hd => h d (List.mem_cons_of_mem _ hd)
      simp [Memory.insert, hc, Memory.read, h c (List.mem_cons_self ..), this]

/-- A byte written is read back. -/
@[simp] theorem Memory.read_write_same (m : Memory) (a : Nat) (v : Byte) :
    (m.write a v).read a = v := by
  unfold Memory.write
  split
  · next h => rw [Memory.read_erase_same, h]
  · exact Memory.read_insert_same _ _ _ fun c hc => by simpa using (List.mem_filter.mp hc).2

/-- A write leaves every other byte alone. -/
theorem Memory.read_write_ne (m : Memory) {a b : Nat} (v : Byte) (h : b ≠ a) :
    (m.write a v).read b = m.read b := by
  unfold Memory.write
  split
  · exact Memory.read_erase_ne m h
  · rw [Memory.read_insert_ne _ _ h, Memory.read_erase_ne m h]

/-! ### The canonical form -/

theorem Memory.wfFrom_mono {m : Memory} {lo lo' : Nat} (h : lo' ≤ lo) (hm : Memory.wfFrom lo m = true) :
    Memory.wfFrom lo' m = true := by
  cases m with
  | nil => rfl
  | cons c t =>
    simp only [Memory.wfFrom, Bool.and_eq_true, decide_eq_true_eq] at hm ⊢
    exact ⟨⟨⟨le_trans h hm.1.1.1, hm.1.1.2⟩, hm.1.2⟩, hm.2⟩

theorem Memory.wfFrom_erase {m : Memory} {lo : Nat} (a : Nat) (hm : Memory.wfFrom lo m = true) :
    Memory.wfFrom lo (m.erase a) = true := by
  induction m generalizing lo with
  | nil => rfl
  | cons c t ih =>
    have hc := hm
    simp only [Memory.wfFrom, Bool.and_eq_true, decide_eq_true_eq] at hc
    by_cases h : c.1 = a
    · have := Memory.wfFrom_mono (le_trans hc.1.1.1 (Nat.le_succ _)) (ih hc.2)
      simpa [Memory.erase, h] using this
    · have := ih hc.2
      simp only [Memory.erase] at this
      simp [Memory.erase, h, Memory.wfFrom, hc.1.1.1, hc.1.1.2, hc.1.2, this]

theorem Memory.wfFrom_insert {m : Memory} {lo a : Nat} {v : Byte} (hm : Memory.wfFrom lo m = true)
    (hlo : lo ≤ a) (ha : a < Memory.size) (hv : v ≠ Config.unlistedByte) (hne : ∀ c ∈ m, c.1 ≠ a) :
    Memory.wfFrom lo (m.insert a v) = true := by
  induction m generalizing lo with
  | nil => simp [Memory.insert, Memory.wfFrom, hlo, ha, hv]
  | cons c t ih =>
    have hc := hm
    simp only [Memory.wfFrom, Bool.and_eq_true, decide_eq_true_eq] at hc
    by_cases h : a < c.1
    · simp [Memory.insert, h, Memory.wfFrom, hlo, ha, hv, hc.1.1.2, hc.1.2, hc.2, Nat.succ_le_of_lt h]
    · have hlt : c.1 + 1 ≤ a :=
        lt_of_le_of_ne (Nat.le_of_not_lt h) (hne c (List.mem_cons_self ..))
      have := ih hc.2 hlt fun d hd => hne d (List.mem_cons_of_mem _ hd)
      simp [Memory.insert, h, Memory.wfFrom, hc.1.1.1, hc.1.1.2, hc.1.2, this]

/-- A write below 2^24 keeps the canonical form. -/
theorem Memory.wf_write {m : Memory} {a : Nat} (v : Byte) (hm : m.wf = true) (ha : a < Memory.size) :
    (m.write a v).wf = true := by
  unfold Memory.write Memory.wf
  split
  · exact Memory.wfFrom_erase a hm
  · next h =>
    exact Memory.wfFrom_insert (Memory.wfFrom_erase a hm) (Nat.zero_le a) ha h fun c hc => by
      simpa using (List.mem_filter.mp hc).2

theorem busAddr_lt (a : Addr) : busAddr a < Memory.size := Nat.mod_lt _ (by decide)

/-- A write lists no address but the one written. -/
theorem Memory.all_write {m : Memory} {p : Host.Cell → Bool} (a : Nat) (v : Byte) (hm : m.all p = true)
    (ha : p (a, v) = true) : (m.write a v).all p = true := by
  have he : (m.erase a).all p = true :=
    List.all_eq_true.mpr fun c hc => List.all_eq_true.mp hm c (List.mem_filter.mp hc).1
  have hi : ∀ l : Memory, l.all p = true → (l.insert a v).all p = true := by
    intro l hl
    induction l with
    | nil => simp [Memory.insert, ha]
    | cons c t ih =>
      simp only [List.all_cons, Bool.and_eq_true] at hl
      simp only [Memory.insert]
      split
      · simp [ha, hl.1, hl.2]
      · simp [hl.1, ih hl.2]
  unfold Memory.write
  split
  · exact he
  · exact hi _ he

/-! ### The addresses of an access -/

/-- The next address and then `i` more. -/
theorem addr_step (a : Addr) (i : Nat) : a + 1#32 + BitVec.ofNat 32 i = a + BitVec.ofNat 32 (i + 1) := by
  rw [Nat.add_comm i 1, BitVec.ofNat_add, BitVec.add_assoc]

/-- The addresses of the bytes of an access. -/
theorem mem_spanOf {k : Nat} {a : Addr} {x : Nat} :
    x ∈ spanOf k a ↔ ∃ i, i < k ∧ x = busAddr (a + BitVec.ofNat 32 i) := by
  induction k generalizing a with
  | zero => simp [spanOf]
  | succ k ih =>
    simp only [spanOf, List.mem_cons, ih]
    constructor
    · rintro (rfl | ⟨i, hi, rfl⟩)
      · exact ⟨0, Nat.succ_pos k, by simp⟩
      · exact ⟨i + 1, Nat.succ_lt_succ hi, by rw [addr_step]⟩
    · rintro ⟨i, hi, rfl⟩
      cases i with
      | zero => exact .inl (by simp)
      | succ i => exact .inr ⟨i, Nat.lt_of_succ_lt_succ hi, by rw [addr_step]⟩

/-- The bytes of an access of at most 2^24 bytes are all different. -/
theorem busAddr_not_mem_span {k : Nat} (hk : k < Memory.size) (a : Addr) :
    busAddr a ∉ spanOf k (a + 1#32) := by
  rw [mem_spanOf]
  rintro ⟨i, hi, h⟩
  have hs : Memory.size = 16777216 := rfl
  simp only [busAddr, BitVec.toNat_add, BitVec.toNat_ofNat, hs] at h hk
  have ha := a.isLt
  omega

/-! ### One byte of the address space -/

@[simp] theorem Bus.noteRead_map (b : Bus) (a : Nat) : (b.noteRead a).map = b.map := by
  unfold Bus.noteRead
  split <;> rfl

@[simp] theorem Bus.noteRead_mem (b : Bus) (a : Nat) : (b.noteRead a).mem = b.mem := by
  unfold Bus.noteRead
  split <;> rfl

@[simp] theorem Bus.write_map (b : Bus) (a : Nat) (v : Byte) : (b.write a v).map = b.map := by
  unfold Bus.write
  split <;> rfl

/-- A byte written to RAM is held there. -/
theorem Bus.read_mem_write_same (b : Bus) {a : Nat} (v : Byte) (h : b.map.kindAt a = .ram) :
    (b.write a v).mem.read a = v := by
  simp [Bus.write, h]

/-- A write changes no byte but that of RAM at its address. -/
theorem Bus.read_mem_write_kept (b : Bus) {a x : Nat} (v : Byte) (h : x = a → b.map.kindAt a ≠ .ram) :
    (b.write a v).mem.read x = b.mem.read x := by
  unfold Bus.write
  split
  · next hk => exact Memory.read_write_ne _ _ fun hx => h hx hk
  all_goals rfl

theorem Bus.wf_noteRead {b : Bus} (a : Nat) (h : b.wf = true) : (b.noteRead a).wf = true := by
  simpa [Bus.wf] using h

theorem Bus.wf_write {b : Bus} {a : Nat} (v : Byte) (h : b.wf = true) (ha : a < Memory.size) :
    (b.write a v).wf = true := by
  simp only [Bus.wf, Bool.and_eq_true] at h ⊢
  unfold Bus.write
  split
  · next hk => exact ⟨Memory.wf_write v h.1 ha, Memory.all_write a v h.2 (by simp [hk, RegionKind.isMemory])⟩
  all_goals exact h

/-- A byte put into memory from outside keeps the canonical form: its address holds memory then. -/
theorem Bus.wf_put {b : Bus} {a : Nat} (v : Byte) (h : b.wf = true) (ha : a < Memory.size) :
    (b.put a v).wf = true := by
  simp only [Bus.wf, Bool.and_eq_true] at h ⊢
  unfold Bus.put
  by_cases hk : (b.map.kindAt a).isMemory = true
  · simp only [hk, if_true]
    exact ⟨Memory.wf_write v h.1 ha, Memory.all_write a v h.2 hk⟩
  · simp only [hk]
    refine ⟨Memory.wf_write v h.1 ha, Memory.all_write a v ?_ ?_⟩
    · refine List.all_eq_true.mpr fun c hc => ?_
      have := List.all_eq_true.mp h.2 c hc
      change RegionKind.isMemory (if a ≤ c.1 ∧ c.1 ≤ a then .ram else b.map.kindAt c.1) = true
      split
      · rfl
      · exact this
    · simp [MemoryMap.kindAt, RegionKind.isMemory]

/-! ### What devices see of an access -/

/-- The first byte of a read is seen first. -/
theorem readsSeen_succ (map : MemoryMap) (k : Nat) (a : Addr) :
    readsSeen map (k + 1) a = readsSeen map k (a + 1#32)
      ++ if (map.kindAt (busAddr a)).isMemory then [] else [.read (busAddr a)] := by
  unfold readsSeen
  rw [List.range_succ_eq_map, List.filterMap_cons, List.filterMap_map]
  simp only [Function.comp_def, addr_step, BitVec.add_zero, Nat.succ_eq_add_one]
  split <;> split <;> simp_all

/-- All that a read does to the address space. -/
theorem Bus.noteReads_eq (b : Bus) (k : Nat) (a : Addr) :
    b.noteReads k a = { b with accesses := readsSeen b.map k a ++ b.accesses } := by
  induction k generalizing b a with
  | zero => rfl
  | succ k ih =>
    rw [Bus.noteReads, ih, Bus.noteRead_map, Bus.noteRead_mem, readsSeen_succ]
    unfold Bus.noteRead
    split <;> simp

@[simp] theorem Bus.noteReads_map (b : Bus) (k : Nat) (a : Addr) : (b.noteReads k a).map = b.map := by
  rw [Bus.noteReads_eq]

@[simp] theorem Bus.noteReads_mem (b : Bus) (k : Nat) (a : Addr) : (b.noteReads k a).mem = b.mem := by
  rw [Bus.noteReads_eq]

theorem Bus.wf_noteReads {b : Bus} (k : Nat) (a : Addr) (h : b.wf = true) : (b.noteReads k a).wf = true := by
  simpa [Bus.wf] using h

/-- A read of RAM and ROM only is seen by nothing. -/
theorem Bus.noteReads_memory (b : Bus) {k : Nat} {a : Addr}
    (h : ∀ x ∈ spanOf k a, (b.map.kindAt x).isMemory = true) : b.noteReads k a = b := by
  induction k generalizing a with
  | zero => rfl
  | succ k ih =>
    simp only [spanOf, List.mem_cons, forall_eq_or_imp] at h
    rw [Bus.noteReads, Bus.noteRead, if_pos h.1, ih h.2]

@[simp] theorem Bus.storeLE_map (b : Bus) (k : Nat) (a : Addr) (v : Nat) : (b.storeLE k a v).map = b.map := by
  induction k generalizing b a v with
  | zero => rfl
  | succ k ih => rw [Bus.storeLE, ih, Bus.write_map]

/-- The accesses that devices see of the low `k` bytes of a number stored. -/
theorem Bus.storeLE_seen (b : Bus) (k : Nat) (a : Addr) (v : Nat) :
    (b.storeLE k a v).accesses
      = ((List.range k).filterMap fun i =>
          if (b.map.kindAt (busAddr (a + BitVec.ofNat 32 i))).isMemory then none
          else some (DeviceAccess.write (busAddr (a + BitVec.ofNat 32 i))
            (BitVec.ofNat 8 (v / 256 ^ i)))).reverse ++ b.accesses := by
  induction k generalizing b a v with
  | zero => rfl
  | succ k ih =>
    rw [Bus.storeLE, ih, List.range_succ_eq_map, List.filterMap_cons, List.filterMap_map]
    have e (i : Nat) : v / 256 / 256 ^ i = v / 256 ^ (i + 1) := by
      rw [Nat.div_div_eq_div_mul, Nat.pow_succ']
    simp only [Function.comp_def, addr_step, e, Bus.write_map, Nat.succ_eq_add_one, BitVec.add_zero,
      Nat.pow_zero, Nat.div_one]
    unfold Bus.write
    cases hk : b.map.kindAt (busAddr a) <;> simp [RegionKind.isMemory]

/-- A byte of a value. -/
theorem extract_byte {n : Nat} (v : BitVec n) (i : Nat) :
    v.extractLsb' (8 * i) 8 = BitVec.ofNat 8 (v.toNat / 256 ^ i) := by
  have e : (2 : Nat) ^ (8 * i) = 256 ^ i := by rw [Nat.pow_mul]
  exact BitVec.eq_of_toNat_eq (by simp [Nat.shiftRight_eq_div_pow, e])

/-- All that devices see of a store. -/
theorem Bus.storeLE_accesses (b : Bus) (z : Size) (a : Addr) (v : BitVec z.bits) :
    (b.storeLE z.bytes a v.toNat).accesses = writesSeen b.map z a v ++ b.accesses := by
  simp only [Bus.storeLE_seen, writesSeen, extract_byte]

/-- A store to RAM and ROM only is seen by nothing. -/
theorem writesSeen_memory {map : MemoryMap} {z : Size} {a : Addr} (v : BitVec z.bits)
    (h : ∀ x ∈ spanOf z.bytes a, (map.kindAt x).isMemory = true) : writesSeen map z a v = [] := by
  rw [writesSeen, List.reverse_eq_nil_iff, List.filterMap_eq_nil_iff]
  exact fun i hi => if_pos (h _ (mem_spanOf.mpr ⟨i, List.mem_range.mp hi, rfl⟩))

/-! ### Little-endian accesses -/

theorem Bus.wf_storeLE {b : Bus} (k : Nat) (a : Addr) (v : Nat) (h : b.wf = true) :
    (b.storeLE k a v).wf = true := by
  induction k generalizing b a v with
  | zero => exact h
  | succ k ih => exact ih _ _ (Bus.wf_write _ h (busAddr_lt a))

/-- Placing bytes keeps the canonical form. -/
theorem Bus.wf_place {b : Bus} (a : Addr) (bs : List Byte) (h : b.wf = true) : (b.place a bs).wf = true := by
  induction bs generalizing b a with
  | nil => exact h
  | cons v t ih => exact ih _ (Bus.wf_put v h (busAddr_lt a))

/-- A store changes no byte but those of RAM in its span. -/
theorem Bus.mem_storeLE_kept (b : Bus) (k : Nat) (a : Addr) (v : Nat) {x : Nat}
    (h : x ∈ spanOf k a → b.map.kindAt x ≠ .ram) : (b.storeLE k a v).mem.read x = b.mem.read x := by
  induction k generalizing b a v with
  | zero => rfl
  | succ k ih =>
    rw [Bus.storeLE, ih _ _ _ (by simpa using fun hx => h (List.mem_cons_of_mem _ hx)),
      Bus.read_mem_write_kept]
    rintro rfl
    exact h (List.mem_cons_self ..)

/-- Byte `i` of a number stored is held at address `a + i`, where that is RAM. -/
theorem Bus.mem_storeLE_byte (b : Bus) {k i : Nat} (hk : k < Memory.size) (a : Addr) (v : Nat) (hi : i < k)
    (h : b.map.kindAt (busAddr (a + BitVec.ofNat 32 i)) = .ram) :
    (b.storeLE k a v).mem.read (busAddr (a + BitVec.ofNat 32 i)) = BitVec.ofNat 8 (v / 256 ^ i) := by
  induction k generalizing b a v i with
  | zero => omega
  | succ k ih =>
    have hk' : k < Memory.size := Nat.lt_of_succ_lt hk
    cases i with
    | zero =>
      simp only [BitVec.add_zero, Nat.pow_zero, Nat.div_one] at h ⊢
      rw [Bus.storeLE, Bus.mem_storeLE_kept _ _ _ _ fun hx => absurd hx (busAddr_not_mem_span hk' a),
        Bus.read_mem_write_same _ _ h]
    | succ i =>
      have e : v / 256 / 256 ^ i = v / 256 ^ (i + 1) := by rw [Nat.div_div_eq_div_mul, Nat.pow_succ']
      rw [← addr_step] at h ⊢
      rw [Bus.storeLE, ih _ hk' _ _ (Nat.lt_of_succ_lt_succ hi) (by simpa using h), e]

theorem Bus.loadLE_lt (b : Bus) (k : Nat) (a : Addr) : b.loadLE k a < 256 ^ k := by
  induction k generalizing b a with
  | zero => simp [Bus.loadLE]
  | succ k ih =>
    have h1 := (b.read (busAddr a)).isLt
    have h2 := ih (b.noteRead (busAddr a)) (a + 1#32)
    rw [Bus.loadLE, Nat.pow_succ']
    omega

/-- Byte `i` of a loaded value is what address `a + i` answers once the bytes before it are read. -/
theorem Bus.loadLE_byte (b : Bus) {k i : Nat} (a : Addr) (h : i < k) :
    b.loadLE k a / 256 ^ i % 256
      = ((b.noteReads i a).read (busAddr (a + BitVec.ofNat 32 i))).toNat := by
  induction k generalizing b a i with
  | zero => omega
  | succ k ih =>
    have h1 := (b.read (busAddr a)).isLt
    cases i with
    | zero =>
      simp only [Bus.loadLE, Bus.noteReads, Nat.pow_zero, Nat.div_one, BitVec.add_zero]
      omega
    | succ i =>
      rw [← addr_step, Bus.noteReads, ← ih _ (a + 1#32) (Nat.lt_of_succ_lt_succ h), Bus.loadLE, Nat.pow_succ',
        ← Nat.div_div_eq_div_mul]
      congr 2
      omega

/-- A load of RAM and ROM depends on the bytes they hold only. -/
theorem Bus.loadLE_congr {b b' : Bus} {k : Nat} {a : Addr} (hm : b'.map = b.map)
    (hk : ∀ x ∈ spanOf k a, (b.map.kindAt x).isMemory = true)
    (h : ∀ x ∈ spanOf k a, b'.mem.read x = b.mem.read x) : b'.loadLE k a = b.loadLE k a := by
  induction k generalizing a with
  | zero => rfl
  | succ k ih =>
    simp only [spanOf, List.mem_cons, forall_eq_or_imp] at h hk
    rw [Bus.loadLE, Bus.loadLE, Bus.read, Bus.read, Bus.noteRead, Bus.noteRead, hm, if_pos hk.1, if_pos hk.1,
      if_pos hk.1, if_pos hk.1, h.1, ih hk.2 h.2]

/-- What is stored to RAM is loaded back. -/
theorem Bus.loadLE_storeLE (b : Bus) {k : Nat} (hk : k < Memory.size) (a : Addr) (v : Nat)
    (h : ∀ x ∈ spanOf k a, b.map.kindAt x = .ram) : (b.storeLE k a v).loadLE k a = v % 256 ^ k := by
  induction k generalizing b a v with
  | zero => simp [Bus.loadLE, Nat.mod_one]
  | succ k ih =>
    have hk' : k < Memory.size := Nat.lt_of_succ_lt hk
    have e : 256 ^ (k + 1) = 256 * 256 ^ k := Nat.pow_succ'
    simp only [spanOf, List.mem_cons, forall_eq_or_imp] at h
    have hr : (b.map.kindAt (busAddr a)).isMemory = true := by rw [h.1]; rfl
    rw [Bus.storeLE, Bus.loadLE, Bus.read, Bus.noteRead]
    simp only [Bus.storeLE_map, Bus.write_map, hr, if_true]
    rw [ih _ hk' _ _ (by simpa using h.2),
      Bus.mem_storeLE_kept _ _ _ _ fun hx => absurd hx (busAddr_not_mem_span hk' a),
      Bus.read_mem_write_same _ _ h.1, BitVec.toNat_ofNat, e, Nat.mod_mul]

end Sys2Proof.Machine
end

