-- ==== Sys2Proof/Laws/Registers.lean ====
section
/-! SUPPORT. The laws of registers: what a read sees after a write of a register or of a part of one. -/

namespace Sys2Proof.Machine

/-! ### Replacing bits -/

/-- The bits of a value with some of its bits replaced. -/
theorem getLsbD_insertBits {n : Nat} (w : BitVec 32) (lo : Nat) (v : BitVec n) (i : Nat) :
    (insertBits w lo v).getLsbD i
      = if lo ≤ i ∧ i < lo + n ∧ i < 32 then v.getLsbD (i - lo) else w.getLsbD i := by
  by_cases h32 : i < 32
  · by_cases hlo : lo ≤ i
    · by_cases hn : i < lo + n
      · have h1 : i - lo < n := by omega
        have h3 : ¬i < lo := by omega
        simp [insertBits, h32, hlo, hn, h1, h3]
      · have h1 : ¬i - lo < n := by omega
        have h3 : ¬i < lo := by omega
        have h4 : v.getLsbD (i - lo) = false := BitVec.getLsbD_of_ge v _ (by omega)
        simp [insertBits, h32, hn, h1, h3, h4]
    · have h3 : i < lo := by omega
      simp [insertBits, h32, hlo, h3]
  · have h1 : w.getLsbD i = false := BitVec.getLsbD_of_ge w i (by omega)
    have h2 : (insertBits w lo v).getLsbD i = false := BitVec.getLsbD_of_ge _ i (by omega)
    simp [h32, h1, h2]

/-- The replaced bits read back. -/
theorem extract_insertBits_same {n : Nat} (w : BitVec 32) (lo : Nat) (v : BitVec n) (h : lo + n ≤ 32) :
    (insertBits w lo v).extractLsb' lo n = v := by
  refine BitVec.eq_of_getLsbD_eq fun i hi => ?_
  have h1 : lo + i < lo + n := by omega
  have h2 : lo + i < 32 := by omega
  simp only [BitVec.getLsbD_extractLsb', hi, decide_true, Bool.true_and, getLsbD_insertBits, h1, h2,
    Nat.le_add_right, and_self, if_true, Nat.add_sub_cancel_left]

/-- Bits outside the replaced ones are kept. -/
theorem extract_insertBits_apart {n : Nat} (w : BitVec 32) (lo : Nat) (v : BitVec n) (lo' m : Nat)
    (h : lo' + m ≤ lo ∨ lo + n ≤ lo') :
    (insertBits w lo v).extractLsb' lo' m = w.extractLsb' lo' m := by
  refine BitVec.eq_of_getLsbD_eq fun i hi => ?_
  have h1 : ¬(lo ≤ lo' + i ∧ lo' + i < lo + n ∧ lo' + i < 32) := by omega
  simp only [BitVec.getLsbD_extractLsb', getLsbD_insertBits, h1, if_false]

/-! ### Whole registers -/

@[simp] theorem State.readLong_writeLong_same (s : State) (c : LongReg) (v : BitVec 32) :
    (s.writeLong c v).readLong c = v := by
  simp [State.readLong, State.writeLong]

/-- A register read after a write of a register: the value written if both are stored in one place. -/
theorem State.readLong_writeLong (s : State) (c d : LongReg) (v : BitVec 32) :
    (s.writeLong c v).readLong d
      = if gprIndex s.rfp d = gprIndex s.rfp c then v else s.readLong d := by
  simp only [State.readLong, State.writeLong]
  split
  · next h => simp [h]
  · next h =>
    have : (gprIndex s.rfp c : Nat) ≠ gprIndex s.rfp d := fun e => h (Fin.ext e.symm)
    simp [this]

@[simp] theorem State.xsp_setXsp (s : State) (v : BitVec 32) : (s.setXsp v).xsp = v :=
  State.readLong_writeLong_same s longXSP v

/-! ### Parts -/

/-- A register-map code that names a register of the size leaves room for it. -/
theorem low_add_bits_le {z : Size} {c : RegSel} (h : c.alignedAt z = true) : partLow c + z.bits ≤ 32 := by
  obtain ⟨w, p⟩ := c
  cases z
  · have := p.isLt
    simp only [partLow, Size.bits]
    omega
  · simp only [partLow, Size.bits, RegSel.alignedAt, Bool.not_eq_true'] at h ⊢
    revert h
    revert p
    decide
  · simp only [partLow, Size.bits, RegSel.alignedAt, beq_iff_eq] at h ⊢
    simp [h]

/-- A register part written is read back. -/
theorem State.readSel_writeSel_same (s : State) {z : Size} {c : RegSel} (v : BitVec z.bits)
    (h : c.alignedAt z = true) : (s.writeSel z c v).readSel z c = v := by
  have hw : (s.writeSel z c v).readLong c.whole = insertBits (s.readLong c.whole) (partLow c) v := by
    simp [State.writeSel]
  rw [State.readSel, hw]
  exact extract_insertBits_same _ _ _ (low_add_bits_le h)

/-- The short codes name a register of their size. -/
@[simp] theorem alignedAt_shortSel (z : Size) (R : BitVec 3) : (shortSel z R).alignedAt z = true := by
  cases z <;> simp [shortSel, RegSel.alignedAt]

theorem alignedAt_operandSel {z : Size} {r : RegOp} (h : r.alignedAt z = true) :
    (operandSel z r).alignedAt z = true := by
  cases r with
  | short R => exact alignedAt_shortSel z R
  | ext c => exact h

@[simp] theorem alignedAt_selA (z : Size) : selA.alignedAt z = true := by cases z <;> rfl

@[simp] theorem alignedAt_selBC (z : Size) : selBC.alignedAt z = true := by cases z <;> rfl

/-- Writing a part at offset 0 of the long size writes the whole register. -/
theorem State.writeSel_long (s : State) (c : LongReg) (v : BitVec 32) :
    s.writeSel .long ⟨c, 0#2⟩ v = s.writeLong c v := by
  have h : insertBits (s.readLong c) 0 v = v := by
    simpa using extract_insertBits_same (s.readLong c) 0 v (by omega)
  exact congrArg (s.writeLong c) h

theorem State.readSel_long (s : State) (c : LongReg) : s.readSel .long ⟨c, 0#2⟩ = s.readLong c := by
  simp [State.readSel, partLow, Size.bits]

/-- The bytes of the registers after a write of a register. -/
theorem State.regByte_writeLong (s : State) (c : LongReg) (v : BitVec 32) (k : Fin 20) (j : Nat) :
    (s.writeLong c v).regByte k j
      = if k = gprIndex s.rfp c then v.extractLsb' (8 * j) 8 else s.regByte k j := by
  simp only [State.regByte, State.writeLong]
  split
  · next h => simp [h]
  · next h =>
    have : (gprIndex s.rfp c : Nat) ≠ k := fun e => h (Fin.ext e.symm)
    simp [this]

/-- A write of a register part keeps every byte it does not occupy. -/
theorem State.regByte_writeSel (s : State) {z : Size} {c : RegSel} (v : BitVec z.bits) (k : Fin 20)
    (j : Nat) (h : ¬occupies s.rfp (z, c) k j) : (s.writeSel z c v).regByte k j = s.regByte k j := by
  rw [State.writeSel, State.regByte_writeLong]
  split
  · next hk =>
    subst hk
    rw [extract_insertBits_apart]
    · rfl
    · have hz : z.bits = 8 * z.bytes := by cases z <;> rfl
      simp only [occupies, true_and, not_and, Nat.not_lt] at h
      simp only [partLow]
      omega
  · rfl

/-- A part of a register is made of its bytes. -/
theorem State.readSel_congr {s t : State} {z : Size} {c : RegSel} (hr : t.rfp = s.rfp)
    (ha : c.alignedAt z = true)
    (h : ∀ j, c.part.toNat ≤ j → j < c.part.toNat + z.bytes →
      t.regByte (gprIndex s.rfp c.whole) j = s.regByte (gprIndex s.rfp c.whole) j) :
    t.readSel z c = s.readSel z c := by
  have hz : z.bits = 8 * z.bytes := by cases z <;> rfl
  have hle := low_add_bits_le ha
  ext i hi
  have hj := h ((partLow c + i) / 8) (by simp only [partLow]; omega)
    (by simp only [partLow]; omega)
  have hb := congrArg (fun b : BitVec 8 => b.getLsbD ((partLow c + i) % 8)) hj
  have e : 8 * ((partLow c + i) / 8) + (partLow c + i) % 8 = partLow c + i := by omega
  have hm : (partLow c + i) % 8 < 8 := Nat.mod_lt _ (by omega)
  simp only [State.regByte, BitVec.getLsbD_extractLsb', hm, decide_true, Bool.true_and, e] at hb
  simpa [State.readSel, State.readLong, hr, hi] using hb

end Sys2Proof.Machine
end

