-- ==== Sys2Proof/Laws/Frames.lean ====
section
/-! SUPPORT. Frames: what each operation keeps, and how frames compose. -/

namespace Sys2Proof.Machine

/-! ### What the address space keeps -/

@[simp] theorem State.kindAt_store (s : State) (z : Size) (a : Addr) (v : BitVec z.bits) (x : Nat) :
    (s.store z a v).kindAt x = s.kindAt x := by
  simp [State.kindAt]

@[simp] theorem State.kindAt_push (s : State) (z : Size) (v : BitVec z.bits) (x : Nat) :
    (s.push z v).kindAt x = s.kindAt x := by
  simp [State.kindAt]

@[simp] theorem State.kindAt_loaded (s : State) (z : Size) (a : Addr) (x : Nat) :
    (s.loaded z a).kindAt x = s.kindAt x := by
  simp [State.kindAt]

@[simp] theorem State.kindAt_dropTop (s : State) (z : Size) (x : Nat) :
    (s.dropTop z).kindAt x = s.kindAt x := by
  simp [State.kindAt]

@[simp] theorem State.byteAt_loaded (s : State) (z : Size) (a : Addr) (x : Nat) :
    (s.loaded z a).byteAt x = s.byteAt x := by
  simp [State.byteAt]

@[simp] theorem State.byteAt_dropTop (s : State) (z : Size) (x : Nat) :
    (s.dropTop z).byteAt x = s.byteAt x := by
  simp [State.byteAt]

/-- A read of RAM and ROM only is seen by nothing. -/
theorem State.loaded_memory (s : State) {z : Size} {a : Addr} (h : MemoryAt s (spanOf z.bytes a)) :
    s.loaded z a = s := by
  rw [State.loaded, Bus.noteReads_memory _ h]

theorem RamAt.memoryAt {s : State} {l : List Nat} (h : RamAt s l) : MemoryAt s l :=
  fun a ha => by rw [h a ha]; rfl

theorem SpaceKept.refl (s : State) (l : List Nat) : SpaceKept s s l :=
  ⟨rfl, fun _ _ => rfl, fun _ => rfl, fun _ ha => .inl ha⟩

/-- An address space that is kept, with its stores. -/
theorem SpaceKept.of_eq {s t : State} (hb : t.bus = s.bus) (hw : t.written ⊆ s.written) (l : List Nat) :
    SpaceKept s t l :=
  ⟨by rw [hb], fun a _ => by rw [State.byteAt, hb]; rfl, fun _ => by rw [hb], fun _ ha => .inl (hw ha)⟩

theorem SpaceKept.mono {s t : State} {m m' : List Nat} (h : SpaceKept s t m) (hm : m ⊆ m') :
    SpaceKept s t m' :=
  ⟨h.1, fun a ha => h.2.1 a fun hx => ha (hm hx), fun hx => h.2.2.1 fun a ha => hx a (hm ha),
    fun a ha => (h.2.2.2 a ha).imp_right fun hx => hm hx⟩

theorem SpaceKept.trans {s t u : State} {m m' : List Nat} (h : SpaceKept s t m) (h' : SpaceKept t u m') :
    SpaceKept s u (m ++ m') := by
  have hk (a : Nat) : t.kindAt a = s.kindAt a := by rw [State.kindAt, h.1]; rfl
  refine ⟨h'.1.trans h.1, fun a ha => ?_, fun hx => ?_, fun a ha => ?_⟩
  · rw [h'.2.1 a fun hm => by rw [hk]; exact ha (List.mem_append_right _ hm),
      h.2.1 a fun hm => ha (List.mem_append_left _ hm)]
  · rw [h'.2.2.1 fun a ha => by rw [hk]; exact hx a (List.mem_append_right _ ha),
      h.2.2.1 fun a ha => hx a (List.mem_append_left _ ha)]
  · rcases h'.2.2.2 a ha with hw | hm
    · exact (h.2.2.2 a hw).imp_right (List.mem_append_left _)
    · exact .inr (List.mem_append_right _ hm)

/-- All that a store keeps of the address space (20_memory.md R71, R75). -/
theorem spaceKept_store (s : State) (z : Size) (a : Addr) (v : BitVec z.bits) :
    SpaceKept s (s.store z a v) (spanOf z.bytes a) := by
  refine ⟨by simp, fun x hx => Bus.mem_storeLE_kept _ _ _ _ hx, fun hx => ?_, fun x hx => ?_⟩
  · rw [State.store_bus, Bus.storeLE_accesses, writesSeen_memory v hx]
    rfl
  · exact (List.mem_append.mp hx).symm

/-! ### Frames -/

theorem Frame.refl (s : State) (l : List (Size × RegSel)) (m : List Nat) : Frame s s l m :=
  ⟨fun _ _ _ _ => rfl, SpaceKept.refl s m, ⟨rfl, rfl, rfl, rfl, rfl⟩, ⟨rfl, rfl, rfl, rfl, rfl, rfl⟩⟩

/-- A frame may list more than changes. -/
theorem Frame.mono {s t : State} {l l' : List (Size × RegSel)} {m m' : List Nat} (h : Frame s t l m)
    (hl : l ⊆ l') (hm : m ⊆ m') : Frame s t l' m' :=
  ⟨fun k j hj hn => h.1 k j hj fun p hp => hn p (hl hp), h.2.1.mono hm, h.2.2.1, h.2.2.2⟩

/-- One change after another. -/
theorem Frame.trans {s t u : State} {l l' : List (Size × RegSel)} {m m' : List Nat} (h : Frame s t l m)
    (h' : Frame t u l' m') : Frame s u (l ++ l') (m ++ m') := by
  obtain ⟨hr, hm, hc, hd⟩ := h
  obtain ⟨hr', hm', hc', hd'⟩ := h'
  refine ⟨fun k j hj hn => ?_, hm.trans hm', ?_, ?_⟩
  · rw [hr' k j hj fun p hp => by
        rw [hd.2.1]
        exact hn p (List.mem_append_right _ hp),
      hr k j hj fun p hp => hn p (List.mem_append_left _ hp)]
  · exact ⟨hc'.1.trans hc.1, hc'.2.1.trans hc.2.1, hc'.2.2.1.trans hc.2.2.1,
      hc'.2.2.2.1.trans hc.2.2.2.1, hc'.2.2.2.2.trans hc.2.2.2.2⟩
  · exact ⟨hd'.1.trans hd.1, hd'.2.1.trans hd.2.1, hd'.2.2.1.trans hd.2.2.1,
      hd'.2.2.2.1.trans hd.2.2.2.1, hd'.2.2.2.2.1.trans hd.2.2.2.2.1,
      hd'.2.2.2.2.2.trans hd.2.2.2.2.2⟩

/-- A change that touches neither registers nor the address space nor the mode nor the control
registers. -/
theorem Frame.of_eq {s t : State} (hg : t.gpr = s.gpr) (hm : t.bus = s.bus) (hw : t.written ⊆ s.written)
    (hc : ControlKept s t) (hd : ModeKept s t) : Frame s t [] [] :=
  ⟨fun k j _ _ => by simp only [State.regByte, hg], .of_eq hm hw _, hc, hd⟩

/-- A frame from the state after a read of RAM and ROM only is one from the state before it. -/
theorem Frame.of_loaded {s t : State} {z : Size} {a : Addr} {l : List (Size × RegSel)} {m : List Nat}
    (h : Frame (s.loaded z a) t l m) (hm : MemoryAt s (spanOf z.bytes a)) : Frame s t l m := by
  rwa [State.loaded_memory s hm] at h

theorem frame_setFlags (s : State) (f : Flags) : Frame s (s.setFlags f) [] [] :=
  .of_eq rfl rfl (List.Subset.refl _) ⟨rfl, rfl, rfl, rfl, rfl⟩ ⟨rfl, rfl, rfl, rfl, rfl, rfl⟩

theorem frame_setCarry (s : State) (b : Bool) : Frame s (s.setCarry b) [] [] :=
  .of_eq rfl rfl (List.Subset.refl _) ⟨rfl, rfl, rfl, rfl, rfl⟩ ⟨rfl, rfl, rfl, rfl, rfl, rfl⟩

theorem frame_jump (s : State) (a : Addr) : Frame s (s.jump a) [] [] :=
  .of_eq rfl rfl (List.Subset.refl _) ⟨rfl, rfl, rfl, rfl, rfl⟩ ⟨rfl, rfl, rfl, rfl, rfl, rfl⟩

theorem frame_drew (s : State) (k : Nat) : Frame s (s.drew k) [] [] :=
  .of_eq rfl rfl (List.Subset.refl _) ⟨rfl, rfl, rfl, rfl, rfl⟩ ⟨rfl, rfl, rfl, rfl, rfl, rfl⟩

theorem frame_settled (s : State) : Frame s s.settled [] [] :=
  .of_eq rfl rfl (List.nil_subset _) ⟨rfl, rfl, rfl, rfl, rfl⟩ ⟨rfl, rfl, rfl, rfl, rfl, rfl⟩

theorem frame_writeSel (s : State) (z : Size) (c : RegSel) (v : BitVec z.bits) :
    Frame s (s.writeSel z c v) [(z, c)] [] :=
  ⟨fun k j _ hn => State.regByte_writeSel s v k j (hn _ (List.mem_singleton_self _)),
    .of_eq rfl (List.Subset.refl _) _, ⟨rfl, rfl, rfl, rfl, rfl⟩, ⟨rfl, rfl, rfl, rfl, rfl, rfl⟩⟩

theorem frame_writeLong (s : State) (c : LongReg) (v : BitVec 32) :
    Frame s (s.writeLong c v) [wholeOf c] [] := by
  rw [← State.writeSel_long]
  exact frame_writeSel s .long ⟨c, 0#2⟩ v

theorem frame_store (s : State) (z : Size) (a : Addr) (v : BitVec z.bits) :
    Frame s (s.store z a v) [] (spanOf z.bytes a) :=
  ⟨fun _ _ _ _ => rfl, spaceKept_store s z a v,
    ⟨rfl, rfl, rfl, rfl, rfl⟩, ⟨rfl, rfl, rfl, rfl, rfl, rfl⟩⟩

theorem frame_push (s : State) (z : Size) (v : BitVec z.bits) :
    Frame s (s.push z v) [wholeOf longXSP] (spanOf z.bytes (s.xsp - sizeWord z)) :=
  (frame_writeLong s longXSP (s.xsp - sizeWord z)).trans (frame_store _ z _ v)

theorem frame_dropTop (s : State) (z : Size) :
    Frame (s.loaded z s.xsp) (s.dropTop z) [wholeOf longXSP] [] :=
  frame_writeLong (s.loaded z s.xsp) longXSP (s.xsp + sizeWord z)

theorem frame_advance (s : State) (m : MemOp) : Frame s (s.advance m) (steppedRegs m) [] := by
  cases m with
  | preDec c t => exact frame_writeLong s c _
  | postInc c t => exact frame_writeLong s c _
  | _ => exact Frame.refl s [] []

theorem frame_countDown (s : State) : Frame s s.countDown [(.word, selBC)] [] :=
  frame_writeSel s .word selBC _

theorem frame_movePointer (s : State) (z : Size) (down : Bool) (p : LongReg) :
    Frame s (s.movePointer z down p) [wholeOf p] [] := frame_writeLong s p _

/-! ### What a store leaves -/

/-- All that a store does to the address space within its span (20_memory.md R73, R75, R87). -/
theorem stored_store (s : State) (z : Size) (a : Addr) (v : BitVec z.bits) :
    Stored s (s.store z a v) z a v := by
  have hk : z.bytes < Memory.size := by cases z <;> decide
  refine ⟨fun i hi h => ?_, Bus.storeLE_accesses s.bus z a v⟩
  rw [State.kindAt_store] at h
  rw [extract_byte]
  exact Bus.mem_storeLE_byte s.bus hk a v.toNat hi h

/-- What is stored to RAM is loaded back. -/
theorem State.load_store_same (s : State) (z : Size) (a : Addr) (v : BitVec z.bits)
    (h : RamAt s (spanOf z.bytes a)) : (s.store z a v).load z a = v := by
  have hk : z.bytes < Memory.size := by cases z <;> decide
  have he : 256 ^ z.bytes = 2 ^ z.bits := by cases z <;> rfl
  rw [State.load, State.store_bus, Bus.loadLE_storeLE _ hk _ _ h, he]
  exact BitVec.eq_of_toNat_eq (by simp [Nat.mod_eq_of_lt v.isLt])

/-- A load of RAM and ROM depends on the bytes they hold only. -/
theorem State.load_congr {s t : State} {z : Size} {a : Addr} (hb : t.bus.map = s.bus.map)
    (hm : MemoryAt s (spanOf z.bytes a)) (h : ∀ x ∈ spanOf z.bytes a, t.byteAt x = s.byteAt x) :
    t.load z a = s.load z a := by
  rw [State.load, Bus.loadLE_congr hb hm h]
  rfl

/-- A store leaves a location of RAM or ROM with no byte in common alone. -/
theorem State.load_store_apart (s : State) (y z : Size) (a b : Addr) (v : BitVec z.bits)
    (hm : MemoryAt s (spanOf y.bytes b)) (h : ∀ x ∈ spanOf y.bytes b, x ∉ spanOf z.bytes a) :
    (s.store z a v).load y b = s.load y b :=
  State.load_congr (by simp) hm fun x hx => Bus.mem_storeLE_kept _ _ _ _ fun hs => absurd hs (h x hx)

@[simp] theorem State.xsp_push (s : State) (z : Size) (v : BitVec z.bits) :
    (s.push z v).xsp = s.xsp - sizeWord z := by
  simp [State.push]

/-- What is pushed into RAM is on top of the stack. -/
theorem State.top_push (s : State) (z : Size) (v : BitVec z.bits)
    (h : RamAt s (spanOf z.bytes (s.xsp - sizeWord z))) : (s.push z v).top z = v := by
  rw [State.top, State.xsp_push]
  exact State.load_store_same _ _ _ _ h

@[simp] theorem State.xsp_dropTop (s : State) (z : Size) : (s.dropTop z).xsp = s.xsp + sizeWord z := by
  simp [State.dropTop]

end Sys2Proof.Machine
end

