-- ==== Sys2Proof/Laws/PerInstr.lean ====
section
/-! SUPPORT. Families of statements made for each constructor of `Instr`.
`EncodedLength`: an instruction's encoding is 1 to 7 bytes long (30_encoding.md R100). -/

namespace Sys2Proof.Laws

/-- 1 to 7 bytes. -/
def EncodedLength.Fits (bs : List Byte) : Prop := 1 ≤ bs.length ∧ bs.length ≤ Config.maxLength

/-- The encoding of the instruction is 1 to 7 bytes long (30_encoding.md R100). -/
def EncodedLength.Statement (i : Instr) : Prop := EncodedLength.Fits (encode i)

/-- A register prefix is 1 or 2 bytes long (30_encoding.md R105, R106). -/
theorem regBytes_length (z : Size) (r : RegOp) :
    1 ≤ (regBytes z r).length ∧ (regBytes z r).length ≤ 2 := by
  cases r <;> simp [regBytes]

/-- A memory prefix is 1 to 4 bytes long (30_encoding.md R110). -/
theorem memBytes_length (k : Option Size) (m : MemOp) :
    1 ≤ (memBytes k m).length ∧ (memBytes k m).length ≤ 4 := by
  cases m <;> simp [memBytes, le16, le24]

/-- A memory prefix with at most 3 bytes after it fits. -/
theorem EncodedLength.mem (k : Option Size) (m : MemOp) (t u : List Byte)
    (h : Nat.ble (t.length + u.length) 3 = true) : Fits (memBytes k m ++ t ++ u) := by
  have := memBytes_length k m
  have := Nat.le_of_ble_eq_true h
  simp only [Fits, List.length_append, Config.maxLength]
  omega

/-- The same, with the bytes in one list. -/
theorem EncodedLength.mem1 (k : Option Size) (m : MemOp) (t : List Byte)
    (h : Nat.ble (t.length + 0) 3 = true) : Fits (memBytes k m ++ t) := by
  simpa using mem k m t [] h

/-- A register prefix with at most 5 bytes after it fits. -/
theorem EncodedLength.reg (z : Size) (r : RegOp) (t u : List Byte)
    (h : Nat.ble (t.length + u.length) 5 = true) : Fits (regBytes z r ++ t ++ u) := by
  have := regBytes_length z r
  have := Nat.le_of_ble_eq_true h
  simp only [Fits, List.length_append, Config.maxLength]
  omega

/-- The same, with the bytes in one list. -/
theorem EncodedLength.reg1 (z : Size) (r : RegOp) (t : List Byte)
    (h : Nat.ble (t.length + 0) 5 = true) : Fits (regBytes z r ++ t) := by
  simpa using reg z r t [] h

/-- A prefix alone fits. -/
theorem EncodedLength.mem0 (k : Option Size) (m : MemOp) : Fits (memBytes k m) := by
  simpa using mem1 k m [] rfl

/-- A prefix alone fits. -/
theorem EncodedLength.reg0 (z : Size) (r : RegOp) : Fits (regBytes z r) := by
  simpa using reg1 z r [] rfl

/-- Bytes that are written out fit if their number does. -/
theorem EncodedLength.plain (bs : List Byte)
    (h : (Nat.ble 1 bs.length && Nat.ble bs.length Config.maxLength) = true) : Fits bs :=
  ⟨Nat.le_of_ble_eq_true (Bool.and_eq_true_iff.mp h).1,
    Nat.le_of_ble_eq_true (Bool.and_eq_true_iff.mp h).2⟩

theorem EncodedLength.ei (n : BitVec 3) : Statement (.ei n) := plain _ rfl
theorem EncodedLength.ldAbs8Imm (a : BitVec 8) (i : BitVec 8) : Statement (.ldAbs8Imm a i) :=
  plain _ rfl
theorem EncodedLength.pushImm (i : BitVec 8) : Statement (.pushImm i) := plain _ rfl
theorem EncodedLength.ldwAbs8Imm (a : BitVec 8) (i : BitVec 16) : Statement (.ldwAbs8Imm a i) :=
  plain _ rfl
theorem EncodedLength.pushwImm (i : BitVec 16) : Statement (.pushwImm i) := plain _ rfl
theorem EncodedLength.retd (d : BitVec 16) : Statement (.retd d) := plain _ rfl
theorem EncodedLength.ldf (n : BitVec 2) : Statement (.ldf n) := plain _ rfl
theorem EncodedLength.jpAbs16 (a : BitVec 16) : Statement (.jpAbs16 a) := plain _ rfl
theorem EncodedLength.jpAbs24 (a : BitVec 24) : Statement (.jpAbs24 a) := plain _ rfl
theorem EncodedLength.callAbs16 (a : BitVec 16) : Statement (.callAbs16 a) := plain _ rfl
theorem EncodedLength.callAbs24 (a : BitVec 24) : Statement (.callAbs24 a) := plain _ rfl
theorem EncodedLength.calr (d : BitVec 16) : Statement (.calr d) := plain _ rfl
theorem EncodedLength.ldRImmB (R : BitVec 3) (i : BitVec 8) : Statement (.ldRImmB R i) :=
  plain _ rfl
theorem EncodedLength.pushRW (R : BitVec 3) : Statement (.pushRW R) := plain _ rfl
theorem EncodedLength.ldRImmW (R : BitVec 3) (i : BitVec 16) : Statement (.ldRImmW R i) :=
  plain _ rfl
theorem EncodedLength.pushRL (R : BitVec 3) : Statement (.pushRL R) := plain _ rfl
theorem EncodedLength.ldRImmL (R : BitVec 3) (i : BitVec 32) : Statement (.ldRImmL R i) :=
  plain _ rfl
theorem EncodedLength.popRW (R : BitVec 3) : Statement (.popRW R) := plain _ rfl
theorem EncodedLength.popRL (R : BitVec 3) : Statement (.popRL R) := plain _ rfl
theorem EncodedLength.jr (cc : Cond) (d : BitVec 8) : Statement (.jr cc d) := plain _ rfl
theorem EncodedLength.jrl (cc : Cond) (d : BitVec 16) : Statement (.jrl cc d) := plain _ rfl
theorem EncodedLength.swi (n : BitVec 3) : Statement (.swi n) := plain _ rfl
theorem EncodedLength.ldrImmB (r : RegOp) (i : BitVec 8) : Statement (.ldrImmB r i) :=
  reg1 .byte r _ rfl
theorem EncodedLength.ldrImmW (r : RegOp) (i : BitVec 16) : Statement (.ldrImmW r i) :=
  reg .word r _ _ rfl
theorem EncodedLength.ldrImmL (r : RegOp) (i : BitVec 32) : Statement (.ldrImmL r i) :=
  reg .long r _ _ rfl
theorem EncodedLength.pushr (z : Size) (r : RegOp) : Statement (.pushr z r) := reg1 z r _ rfl
theorem EncodedLength.popr (z : Size) (r : RegOp) : Statement (.popr z r) := reg1 z r _ rfl
theorem EncodedLength.cpl (z : Size) (r : RegOp) : Statement (.cpl z r) := reg1 z r _ rfl
theorem EncodedLength.neg (z : Size) (r : RegOp) : Statement (.neg z r) := reg1 z r _ rfl
theorem EncodedLength.mulrImmB (r : RegOp) (i : BitVec 8) : Statement (.mulrImmB r i) :=
  reg1 .byte r _ rfl
theorem EncodedLength.mulrImmW (r : RegOp) (i : BitVec 16) : Statement (.mulrImmW r i) :=
  reg .word r _ _ rfl
theorem EncodedLength.mulsrImmB (r : RegOp) (i : BitVec 8) : Statement (.mulsrImmB r i) :=
  reg1 .byte r _ rfl
theorem EncodedLength.mulsrImmW (r : RegOp) (i : BitVec 16) : Statement (.mulsrImmW r i) :=
  reg .word r _ _ rfl
theorem EncodedLength.divrImmB (r : RegOp) (i : BitVec 8) : Statement (.divrImmB r i) :=
  reg1 .byte r _ rfl
theorem EncodedLength.divrImmW (r : RegOp) (i : BitVec 16) : Statement (.divrImmW r i) :=
  reg .word r _ _ rfl
theorem EncodedLength.divsrImmB (r : RegOp) (i : BitVec 8) : Statement (.divsrImmB r i) :=
  reg1 .byte r _ rfl
theorem EncodedLength.divsrImmW (r : RegOp) (i : BitVec 16) : Statement (.divsrImmW r i) :=
  reg .word r _ _ rfl
theorem EncodedLength.link (r : RegOp) (d : BitVec 16) : Statement (.link r d) :=
  reg .long r _ _ rfl
theorem EncodedLength.unlk (r : RegOp) : Statement (.unlk r) := reg1 .long r _ rfl
theorem EncodedLength.bs1f (r : RegOp) : Statement (.bs1f r) := reg1 .word r _ rfl
theorem EncodedLength.bs1b (r : RegOp) : Statement (.bs1b r) := reg1 .word r _ rfl
theorem EncodedLength.daa (r : RegOp) : Statement (.daa r) := reg1 .byte r _ rfl
theorem EncodedLength.extz (z : Size) (r : RegOp) : Statement (.extz z r) := reg1 z r _ rfl
theorem EncodedLength.exts (z : Size) (r : RegOp) : Statement (.exts z r) := reg1 z r _ rfl
theorem EncodedLength.paa (z : Size) (r : RegOp) : Statement (.paa z r) := reg1 z r _ rfl
theorem EncodedLength.mirr (r : RegOp) : Statement (.mirr r) := reg1 .word r _ rfl
theorem EncodedLength.mula (r : RegOp) : Statement (.mula r) := reg1 .word r _ rfl
theorem EncodedLength.djnz (z : Size) (r : RegOp) (d : BitVec 8) : Statement (.djnz z r d) :=
  reg1 z r _ rfl
theorem EncodedLength.andcfNumr (z : Size) (n : BitVec 4) (r : RegOp) : Statement (.andcfNumr z n r) :=
  reg1 z r _ rfl
theorem EncodedLength.andcfAr (z : Size) (r : RegOp) : Statement (.andcfAr z r) := reg1 z r _ rfl
theorem EncodedLength.orcfNumr (z : Size) (n : BitVec 4) (r : RegOp) : Statement (.orcfNumr z n r) :=
  reg1 z r _ rfl
theorem EncodedLength.orcfAr (z : Size) (r : RegOp) : Statement (.orcfAr z r) := reg1 z r _ rfl
theorem EncodedLength.xorcfNumr (z : Size) (n : BitVec 4) (r : RegOp) : Statement (.xorcfNumr z n r) :=
  reg1 z r _ rfl
theorem EncodedLength.xorcfAr (z : Size) (r : RegOp) : Statement (.xorcfAr z r) := reg1 z r _ rfl
theorem EncodedLength.ldcfNumr (z : Size) (n : BitVec 4) (r : RegOp) : Statement (.ldcfNumr z n r) :=
  reg1 z r _ rfl
theorem EncodedLength.ldcfAr (z : Size) (r : RegOp) : Statement (.ldcfAr z r) := reg1 z r _ rfl
theorem EncodedLength.stcfNumr (z : Size) (n : BitVec 4) (r : RegOp) : Statement (.stcfNumr z n r) :=
  reg1 z r _ rfl
theorem EncodedLength.stcfAr (z : Size) (r : RegOp) : Statement (.stcfAr z r) := reg1 z r _ rfl
theorem EncodedLength.ldcCrr (z : Size) (k : ControlReg) (r : RegOp) : Statement (.ldcCrr z k r) :=
  reg1 z r _ rfl
theorem EncodedLength.ldcrCr (z : Size) (r : RegOp) (k : ControlReg) : Statement (.ldcrCr z r k) :=
  reg1 z r _ rfl
theorem EncodedLength.resNumr (z : Size) (n : BitVec 4) (r : RegOp) : Statement (.resNumr z n r) :=
  reg1 z r _ rfl
theorem EncodedLength.setNumr (z : Size) (n : BitVec 4) (r : RegOp) : Statement (.setNumr z n r) :=
  reg1 z r _ rfl
theorem EncodedLength.chgNumr (z : Size) (n : BitVec 4) (r : RegOp) : Statement (.chgNumr z n r) :=
  reg1 z r _ rfl
theorem EncodedLength.bitNumr (z : Size) (n : BitVec 4) (r : RegOp) : Statement (.bitNumr z n r) :=
  reg1 z r _ rfl
theorem EncodedLength.tsetNumr (z : Size) (n : BitVec 4) (r : RegOp) : Statement (.tsetNumr z n r) :=
  reg1 z r _ rfl
theorem EncodedLength.minc1 (i : BitVec 16) (r : RegOp) : Statement (.minc1 i r) :=
  reg .word r _ _ rfl
theorem EncodedLength.minc2 (i : BitVec 16) (r : RegOp) : Statement (.minc2 i r) :=
  reg .word r _ _ rfl
theorem EncodedLength.minc4 (i : BitVec 16) (r : RegOp) : Statement (.minc4 i r) :=
  reg .word r _ _ rfl
theorem EncodedLength.mdec1 (i : BitVec 16) (r : RegOp) : Statement (.mdec1 i r) :=
  reg .word r _ _ rfl
theorem EncodedLength.mdec2 (i : BitVec 16) (r : RegOp) : Statement (.mdec2 i r) :=
  reg .word r _ _ rfl
theorem EncodedLength.mdec4 (i : BitVec 16) (r : RegOp) : Statement (.mdec4 i r) :=
  reg .word r _ _ rfl
theorem EncodedLength.mulRr (z : Size) (R : BitVec 3) (r : RegOp) : Statement (.mulRr z R r) :=
  reg1 z r _ rfl
theorem EncodedLength.mulsRr (z : Size) (R : BitVec 3) (r : RegOp) : Statement (.mulsRr z R r) :=
  reg1 z r _ rfl
theorem EncodedLength.divRr (z : Size) (R : BitVec 3) (r : RegOp) : Statement (.divRr z R r) :=
  reg1 z r _ rfl
theorem EncodedLength.divsRr (z : Size) (R : BitVec 3) (r : RegOp) : Statement (.divsRr z R r) :=
  reg1 z r _ rfl
theorem EncodedLength.incNumr (z : Size) (n : BitVec 3) (r : RegOp) : Statement (.incNumr z n r) :=
  reg1 z r _ rfl
theorem EncodedLength.decNumr (z : Size) (n : BitVec 3) (r : RegOp) : Statement (.decNumr z n r) :=
  reg1 z r _ rfl
theorem EncodedLength.scc (z : Size) (cc : Cond) (r : RegOp) : Statement (.scc z cc r) :=
  reg1 z r _ rfl
theorem EncodedLength.addRr (z : Size) (R : BitVec 3) (r : RegOp) : Statement (.addRr z R r) :=
  reg1 z r _ rfl
theorem EncodedLength.adcRr (z : Size) (R : BitVec 3) (r : RegOp) : Statement (.adcRr z R r) :=
  reg1 z r _ rfl
theorem EncodedLength.subRr (z : Size) (R : BitVec 3) (r : RegOp) : Statement (.subRr z R r) :=
  reg1 z r _ rfl
theorem EncodedLength.sbcRr (z : Size) (R : BitVec 3) (r : RegOp) : Statement (.sbcRr z R r) :=
  reg1 z r _ rfl
theorem EncodedLength.andRr (z : Size) (R : BitVec 3) (r : RegOp) : Statement (.andRr z R r) :=
  reg1 z r _ rfl
theorem EncodedLength.xorRr (z : Size) (R : BitVec 3) (r : RegOp) : Statement (.xorRr z R r) :=
  reg1 z r _ rfl
theorem EncodedLength.orRr (z : Size) (R : BitVec 3) (r : RegOp) : Statement (.orRr z R r) :=
  reg1 z r _ rfl
theorem EncodedLength.cpRr (z : Size) (R : BitVec 3) (r : RegOp) : Statement (.cpRr z R r) :=
  reg1 z r _ rfl
theorem EncodedLength.ldRr (z : Size) (R : BitVec 3) (r : RegOp) : Statement (.ldRr z R r) :=
  reg1 z r _ rfl
theorem EncodedLength.ldrR (z : Size) (r : RegOp) (R : BitVec 3) : Statement (.ldrR z r R) :=
  reg1 z r _ rfl
theorem EncodedLength.ldrNum3 (z : Size) (r : RegOp) (n : BitVec 3) : Statement (.ldrNum3 z r n) :=
  reg1 z r _ rfl
theorem EncodedLength.exRr (z : Size) (R : BitVec 3) (r : RegOp) : Statement (.exRr z R r) :=
  reg1 z r _ rfl
theorem EncodedLength.addrImmB (r : RegOp) (i : BitVec 8) : Statement (.addrImmB r i) :=
  reg1 .byte r _ rfl
theorem EncodedLength.addrImmW (r : RegOp) (i : BitVec 16) : Statement (.addrImmW r i) :=
  reg .word r _ _ rfl
theorem EncodedLength.addrImmL (r : RegOp) (i : BitVec 32) : Statement (.addrImmL r i) :=
  reg .long r _ _ rfl
theorem EncodedLength.adcrImmB (r : RegOp) (i : BitVec 8) : Statement (.adcrImmB r i) :=
  reg1 .byte r _ rfl
theorem EncodedLength.adcrImmW (r : RegOp) (i : BitVec 16) : Statement (.adcrImmW r i) :=
  reg .word r _ _ rfl
theorem EncodedLength.adcrImmL (r : RegOp) (i : BitVec 32) : Statement (.adcrImmL r i) :=
  reg .long r _ _ rfl
theorem EncodedLength.subrImmB (r : RegOp) (i : BitVec 8) : Statement (.subrImmB r i) :=
  reg1 .byte r _ rfl
theorem EncodedLength.subrImmW (r : RegOp) (i : BitVec 16) : Statement (.subrImmW r i) :=
  reg .word r _ _ rfl
theorem EncodedLength.subrImmL (r : RegOp) (i : BitVec 32) : Statement (.subrImmL r i) :=
  reg .long r _ _ rfl
theorem EncodedLength.sbcrImmB (r : RegOp) (i : BitVec 8) : Statement (.sbcrImmB r i) :=
  reg1 .byte r _ rfl
theorem EncodedLength.sbcrImmW (r : RegOp) (i : BitVec 16) : Statement (.sbcrImmW r i) :=
  reg .word r _ _ rfl
theorem EncodedLength.sbcrImmL (r : RegOp) (i : BitVec 32) : Statement (.sbcrImmL r i) :=
  reg .long r _ _ rfl
theorem EncodedLength.andrImmB (r : RegOp) (i : BitVec 8) : Statement (.andrImmB r i) :=
  reg1 .byte r _ rfl
theorem EncodedLength.andrImmW (r : RegOp) (i : BitVec 16) : Statement (.andrImmW r i) :=
  reg .word r _ _ rfl
theorem EncodedLength.andrImmL (r : RegOp) (i : BitVec 32) : Statement (.andrImmL r i) :=
  reg .long r _ _ rfl
theorem EncodedLength.xorrImmB (r : RegOp) (i : BitVec 8) : Statement (.xorrImmB r i) :=
  reg1 .byte r _ rfl
theorem EncodedLength.xorrImmW (r : RegOp) (i : BitVec 16) : Statement (.xorrImmW r i) :=
  reg .word r _ _ rfl
theorem EncodedLength.xorrImmL (r : RegOp) (i : BitVec 32) : Statement (.xorrImmL r i) :=
  reg .long r _ _ rfl
theorem EncodedLength.orrImmB (r : RegOp) (i : BitVec 8) : Statement (.orrImmB r i) :=
  reg1 .byte r _ rfl
theorem EncodedLength.orrImmW (r : RegOp) (i : BitVec 16) : Statement (.orrImmW r i) :=
  reg .word r _ _ rfl
theorem EncodedLength.orrImmL (r : RegOp) (i : BitVec 32) : Statement (.orrImmL r i) :=
  reg .long r _ _ rfl
theorem EncodedLength.cprImmB (r : RegOp) (i : BitVec 8) : Statement (.cprImmB r i) :=
  reg1 .byte r _ rfl
theorem EncodedLength.cprImmW (r : RegOp) (i : BitVec 16) : Statement (.cprImmW r i) :=
  reg .word r _ _ rfl
theorem EncodedLength.cprImmL (r : RegOp) (i : BitVec 32) : Statement (.cprImmL r i) :=
  reg .long r _ _ rfl
theorem EncodedLength.cprNum3 (z : Size) (r : RegOp) (n : BitVec 3) : Statement (.cprNum3 z r n) :=
  reg1 z r _ rfl
theorem EncodedLength.rlcNumr (z : Size) (n : BitVec 4) (r : RegOp) : Statement (.rlcNumr z n r) :=
  reg1 z r _ rfl
theorem EncodedLength.rrcNumr (z : Size) (n : BitVec 4) (r : RegOp) : Statement (.rrcNumr z n r) :=
  reg1 z r _ rfl
theorem EncodedLength.rlNumr (z : Size) (n : BitVec 4) (r : RegOp) : Statement (.rlNumr z n r) :=
  reg1 z r _ rfl
theorem EncodedLength.rrNumr (z : Size) (n : BitVec 4) (r : RegOp) : Statement (.rrNumr z n r) :=
  reg1 z r _ rfl
theorem EncodedLength.slaNumr (z : Size) (n : BitVec 4) (r : RegOp) : Statement (.slaNumr z n r) :=
  reg1 z r _ rfl
theorem EncodedLength.sraNumr (z : Size) (n : BitVec 4) (r : RegOp) : Statement (.sraNumr z n r) :=
  reg1 z r _ rfl
theorem EncodedLength.sllNumr (z : Size) (n : BitVec 4) (r : RegOp) : Statement (.sllNumr z n r) :=
  reg1 z r _ rfl
theorem EncodedLength.srlNumr (z : Size) (n : BitVec 4) (r : RegOp) : Statement (.srlNumr z n r) :=
  reg1 z r _ rfl
theorem EncodedLength.rlcAr (z : Size) (r : RegOp) : Statement (.rlcAr z r) := reg1 z r _ rfl
theorem EncodedLength.rrcAr (z : Size) (r : RegOp) : Statement (.rrcAr z r) := reg1 z r _ rfl
theorem EncodedLength.rlAr (z : Size) (r : RegOp) : Statement (.rlAr z r) := reg1 z r _ rfl
theorem EncodedLength.rrAr (z : Size) (r : RegOp) : Statement (.rrAr z r) := reg1 z r _ rfl
theorem EncodedLength.slaAr (z : Size) (r : RegOp) : Statement (.slaAr z r) := reg1 z r _ rfl
theorem EncodedLength.sraAr (z : Size) (r : RegOp) : Statement (.sraAr z r) := reg1 z r _ rfl
theorem EncodedLength.sllAr (z : Size) (r : RegOp) : Statement (.sllAr z r) := reg1 z r _ rfl
theorem EncodedLength.srlAr (z : Size) (r : RegOp) : Statement (.srlAr z r) := reg1 z r _ rfl
theorem EncodedLength.pushMem (z : Size) (m : MemOp) : Statement (.pushMem z m) :=
  mem1 (some z) m _ rfl
theorem EncodedLength.rld (m : MemOp) : Statement (.rld m) := mem1 (some .byte) m _ rfl
theorem EncodedLength.rrd (m : MemOp) : Statement (.rrd m) := mem1 (some .byte) m _ rfl
theorem EncodedLength.ldiDeHl (z : Size) : Statement (.ldiDeHl z) := plain _ rfl
theorem EncodedLength.ldiIxIy (z : Size) : Statement (.ldiIxIy z) := plain _ rfl
theorem EncodedLength.ldirDeHl (z : Size) : Statement (.ldirDeHl z) := plain _ rfl
theorem EncodedLength.ldirIxIy (z : Size) : Statement (.ldirIxIy z) := plain _ rfl
theorem EncodedLength.lddDeHl (z : Size) : Statement (.lddDeHl z) := plain _ rfl
theorem EncodedLength.lddIxIy (z : Size) : Statement (.lddIxIy z) := plain _ rfl
theorem EncodedLength.lddrDeHl (z : Size) : Statement (.lddrDeHl z) := plain _ rfl
theorem EncodedLength.lddrIxIy (z : Size) : Statement (.lddrIxIy z) := plain _ rfl
theorem EncodedLength.cpi (z : Size) (R : BitVec 3) : Statement (.cpi z R) := plain _ rfl
theorem EncodedLength.cpir (z : Size) (R : BitVec 3) : Statement (.cpir z R) := plain _ rfl
theorem EncodedLength.cpd (z : Size) (R : BitVec 3) : Statement (.cpd z R) := plain _ rfl
theorem EncodedLength.cpdr (z : Size) (R : BitVec 3) : Statement (.cpdr z R) := plain _ rfl
theorem EncodedLength.ldAbs16Mem (z : Size) (a : BitVec 16) (m : MemOp) : Statement (.ldAbs16Mem z a m) :=
  mem (some z) m _ _ rfl
theorem EncodedLength.ldRMem (z : Size) (R : BitVec 3) (m : MemOp) : Statement (.ldRMem z R m) :=
  mem1 (some z) m _ rfl
theorem EncodedLength.exMemR (z : Size) (m : MemOp) (R : BitVec 3) : Statement (.exMemR z m R) :=
  mem1 (some z) m _ rfl
theorem EncodedLength.addMemImmB (m : MemOp) (i : BitVec 8) : Statement (.addMemImmB m i) :=
  mem1 (some .byte) m _ rfl
theorem EncodedLength.addMemImmW (m : MemOp) (i : BitVec 16) : Statement (.addMemImmW m i) :=
  mem (some .word) m _ _ rfl
theorem EncodedLength.adcMemImmB (m : MemOp) (i : BitVec 8) : Statement (.adcMemImmB m i) :=
  mem1 (some .byte) m _ rfl
theorem EncodedLength.adcMemImmW (m : MemOp) (i : BitVec 16) : Statement (.adcMemImmW m i) :=
  mem (some .word) m _ _ rfl
theorem EncodedLength.subMemImmB (m : MemOp) (i : BitVec 8) : Statement (.subMemImmB m i) :=
  mem1 (some .byte) m _ rfl
theorem EncodedLength.subMemImmW (m : MemOp) (i : BitVec 16) : Statement (.subMemImmW m i) :=
  mem (some .word) m _ _ rfl
theorem EncodedLength.sbcMemImmB (m : MemOp) (i : BitVec 8) : Statement (.sbcMemImmB m i) :=
  mem1 (some .byte) m _ rfl
theorem EncodedLength.sbcMemImmW (m : MemOp) (i : BitVec 16) : Statement (.sbcMemImmW m i) :=
  mem (some .word) m _ _ rfl
theorem EncodedLength.andMemImmB (m : MemOp) (i : BitVec 8) : Statement (.andMemImmB m i) :=
  mem1 (some .byte) m _ rfl
theorem EncodedLength.andMemImmW (m : MemOp) (i : BitVec 16) : Statement (.andMemImmW m i) :=
  mem (some .word) m _ _ rfl
theorem EncodedLength.xorMemImmB (m : MemOp) (i : BitVec 8) : Statement (.xorMemImmB m i) :=
  mem1 (some .byte) m _ rfl
theorem EncodedLength.xorMemImmW (m : MemOp) (i : BitVec 16) : Statement (.xorMemImmW m i) :=
  mem (some .word) m _ _ rfl
theorem EncodedLength.orMemImmB (m : MemOp) (i : BitVec 8) : Statement (.orMemImmB m i) :=
  mem1 (some .byte) m _ rfl
theorem EncodedLength.orMemImmW (m : MemOp) (i : BitVec 16) : Statement (.orMemImmW m i) :=
  mem (some .word) m _ _ rfl
theorem EncodedLength.cpMemImmB (m : MemOp) (i : BitVec 8) : Statement (.cpMemImmB m i) :=
  mem1 (some .byte) m _ rfl
theorem EncodedLength.cpMemImmW (m : MemOp) (i : BitVec 16) : Statement (.cpMemImmW m i) :=
  mem (some .word) m _ _ rfl
theorem EncodedLength.mulRMem (z : Size) (R : BitVec 3) (m : MemOp) : Statement (.mulRMem z R m) :=
  mem1 (some z) m _ rfl
theorem EncodedLength.mulsRMem (z : Size) (R : BitVec 3) (m : MemOp) : Statement (.mulsRMem z R m) :=
  mem1 (some z) m _ rfl
theorem EncodedLength.divRMem (z : Size) (R : BitVec 3) (m : MemOp) : Statement (.divRMem z R m) :=
  mem1 (some z) m _ rfl
theorem EncodedLength.divsRMem (z : Size) (R : BitVec 3) (m : MemOp) : Statement (.divsRMem z R m) :=
  mem1 (some z) m _ rfl
theorem EncodedLength.incNumMem (z : Size) (n : BitVec 3) (m : MemOp) : Statement (.incNumMem z n m) :=
  mem1 (some z) m _ rfl
theorem EncodedLength.decNumMem (z : Size) (n : BitVec 3) (m : MemOp) : Statement (.decNumMem z n m) :=
  mem1 (some z) m _ rfl
theorem EncodedLength.rlcMem (z : Size) (m : MemOp) : Statement (.rlcMem z m) :=
  mem1 (some z) m _ rfl
theorem EncodedLength.rrcMem (z : Size) (m : MemOp) : Statement (.rrcMem z m) :=
  mem1 (some z) m _ rfl
theorem EncodedLength.rlMem (z : Size) (m : MemOp) : Statement (.rlMem z m) := mem1 (some z) m _ rfl
theorem EncodedLength.rrMem (z : Size) (m : MemOp) : Statement (.rrMem z m) := mem1 (some z) m _ rfl
theorem EncodedLength.slaMem (z : Size) (m : MemOp) : Statement (.slaMem z m) :=
  mem1 (some z) m _ rfl
theorem EncodedLength.sraMem (z : Size) (m : MemOp) : Statement (.sraMem z m) :=
  mem1 (some z) m _ rfl
theorem EncodedLength.sllMem (z : Size) (m : MemOp) : Statement (.sllMem z m) :=
  mem1 (some z) m _ rfl
theorem EncodedLength.srlMem (z : Size) (m : MemOp) : Statement (.srlMem z m) :=
  mem1 (some z) m _ rfl
theorem EncodedLength.addRMem (z : Size) (R : BitVec 3) (m : MemOp) : Statement (.addRMem z R m) :=
  mem1 (some z) m _ rfl
theorem EncodedLength.addMemR (z : Size) (m : MemOp) (R : BitVec 3) : Statement (.addMemR z m R) :=
  mem1 (some z) m _ rfl
theorem EncodedLength.adcRMem (z : Size) (R : BitVec 3) (m : MemOp) : Statement (.adcRMem z R m) :=
  mem1 (some z) m _ rfl
theorem EncodedLength.adcMemR (z : Size) (m : MemOp) (R : BitVec 3) : Statement (.adcMemR z m R) :=
  mem1 (some z) m _ rfl
theorem EncodedLength.subRMem (z : Size) (R : BitVec 3) (m : MemOp) : Statement (.subRMem z R m) :=
  mem1 (some z) m _ rfl
theorem EncodedLength.subMemR (z : Size) (m : MemOp) (R : BitVec 3) : Statement (.subMemR z m R) :=
  mem1 (some z) m _ rfl
theorem EncodedLength.sbcRMem (z : Size) (R : BitVec 3) (m : MemOp) : Statement (.sbcRMem z R m) :=
  mem1 (some z) m _ rfl
theorem EncodedLength.sbcMemR (z : Size) (m : MemOp) (R : BitVec 3) : Statement (.sbcMemR z m R) :=
  mem1 (some z) m _ rfl
theorem EncodedLength.andRMem (z : Size) (R : BitVec 3) (m : MemOp) : Statement (.andRMem z R m) :=
  mem1 (some z) m _ rfl
theorem EncodedLength.andMemR (z : Size) (m : MemOp) (R : BitVec 3) : Statement (.andMemR z m R) :=
  mem1 (some z) m _ rfl
theorem EncodedLength.xorRMem (z : Size) (R : BitVec 3) (m : MemOp) : Statement (.xorRMem z R m) :=
  mem1 (some z) m _ rfl
theorem EncodedLength.xorMemR (z : Size) (m : MemOp) (R : BitVec 3) : Statement (.xorMemR z m R) :=
  mem1 (some z) m _ rfl
theorem EncodedLength.orRMem (z : Size) (R : BitVec 3) (m : MemOp) : Statement (.orRMem z R m) :=
  mem1 (some z) m _ rfl
theorem EncodedLength.orMemR (z : Size) (m : MemOp) (R : BitVec 3) : Statement (.orMemR z m R) :=
  mem1 (some z) m _ rfl
theorem EncodedLength.cpRMem (z : Size) (R : BitVec 3) (m : MemOp) : Statement (.cpRMem z R m) :=
  mem1 (some z) m _ rfl
theorem EncodedLength.cpMemR (z : Size) (m : MemOp) (R : BitVec 3) : Statement (.cpMemR z m R) :=
  mem1 (some z) m _ rfl
theorem EncodedLength.ldMemImm (m : MemOp) (i : BitVec 8) : Statement (.ldMemImm m i) :=
  mem1 none m _ rfl
theorem EncodedLength.ldwMemImm (m : MemOp) (i : BitVec 16) : Statement (.ldwMemImm m i) :=
  mem none m _ _ rfl
theorem EncodedLength.popMem (m : MemOp) : Statement (.popMem m) := mem1 none m _ rfl
theorem EncodedLength.popwMem (m : MemOp) : Statement (.popwMem m) := mem1 none m _ rfl
theorem EncodedLength.ldMemAbs16 (m : MemOp) (a : BitVec 16) : Statement (.ldMemAbs16 m a) :=
  mem none m _ _ rfl
theorem EncodedLength.ldwMemAbs16 (m : MemOp) (a : BitVec 16) : Statement (.ldwMemAbs16 m a) :=
  mem none m _ _ rfl
theorem EncodedLength.ldaW (R : BitVec 3) (m : MemOp) : Statement (.ldaW R m) := mem1 none m _ rfl
theorem EncodedLength.ldaL (R : BitVec 3) (m : MemOp) : Statement (.ldaL R m) := mem1 none m _ rfl
theorem EncodedLength.ldarW (R : BitVec 3) (d : BitVec 16) : Statement (.ldarW R d) := plain _ rfl
theorem EncodedLength.ldarL (R : BitVec 3) (d : BitVec 16) : Statement (.ldarL R d) := plain _ rfl
theorem EncodedLength.andcfAMem (m : MemOp) : Statement (.andcfAMem m) := mem1 none m _ rfl
theorem EncodedLength.orcfAMem (m : MemOp) : Statement (.orcfAMem m) := mem1 none m _ rfl
theorem EncodedLength.xorcfAMem (m : MemOp) : Statement (.xorcfAMem m) := mem1 none m _ rfl
theorem EncodedLength.ldcfAMem (m : MemOp) : Statement (.ldcfAMem m) := mem1 none m _ rfl
theorem EncodedLength.stcfAMem (m : MemOp) : Statement (.stcfAMem m) := mem1 none m _ rfl
theorem EncodedLength.ldMemRB (m : MemOp) (R : BitVec 3) : Statement (.ldMemRB m R) :=
  mem1 none m _ rfl
theorem EncodedLength.ldMemRW (m : MemOp) (R : BitVec 3) : Statement (.ldMemRW m R) :=
  mem1 none m _ rfl
theorem EncodedLength.ldMemRL (m : MemOp) (R : BitVec 3) : Statement (.ldMemRL m R) :=
  mem1 none m _ rfl
theorem EncodedLength.andcfNumMem (n : BitVec 3) (m : MemOp) : Statement (.andcfNumMem n m) :=
  mem1 none m _ rfl
theorem EncodedLength.orcfNumMem (n : BitVec 3) (m : MemOp) : Statement (.orcfNumMem n m) :=
  mem1 none m _ rfl
theorem EncodedLength.xorcfNumMem (n : BitVec 3) (m : MemOp) : Statement (.xorcfNumMem n m) :=
  mem1 none m _ rfl
theorem EncodedLength.ldcfNumMem (n : BitVec 3) (m : MemOp) : Statement (.ldcfNumMem n m) :=
  mem1 none m _ rfl
theorem EncodedLength.stcfNumMem (n : BitVec 3) (m : MemOp) : Statement (.stcfNumMem n m) :=
  mem1 none m _ rfl
theorem EncodedLength.tsetNumMem (n : BitVec 3) (m : MemOp) : Statement (.tsetNumMem n m) :=
  mem1 none m _ rfl
theorem EncodedLength.resNumMem (n : BitVec 3) (m : MemOp) : Statement (.resNumMem n m) :=
  mem1 none m _ rfl
theorem EncodedLength.setNumMem (n : BitVec 3) (m : MemOp) : Statement (.setNumMem n m) :=
  mem1 none m _ rfl
theorem EncodedLength.chgNumMem (n : BitVec 3) (m : MemOp) : Statement (.chgNumMem n m) :=
  mem1 none m _ rfl
theorem EncodedLength.bitNumMem (n : BitVec 3) (m : MemOp) : Statement (.bitNumMem n m) :=
  mem1 none m _ rfl
theorem EncodedLength.jpMem (cc : Cond) (m : MemOp) : Statement (.jpMem cc m) := mem1 none m _ rfl
theorem EncodedLength.callMem (cc : Cond) (m : MemOp) : Statement (.callMem cc m) :=
  mem1 none m _ rfl
theorem EncodedLength.retCc (cc : Cond) : Statement (.retCc cc) := plain _ rfl
theorem EncodedLength.prefixRegShort (z : Size) (r : BitVec 3) : Statement (.prefixRegShort z r) :=
  reg0 z (.short r)
theorem EncodedLength.prefixRegExt (z : Size) (c : RegSel) : Statement (.prefixRegExt z c) :=
  reg0 z (.ext c)
theorem EncodedLength.prefixMemInd (k : Option Size) (R : BitVec 3) : Statement (.prefixMemInd k R) :=
  mem0 k (.ind R)
theorem EncodedLength.prefixMemIndD8 (k : Option Size) (R : BitVec 3) (d : BitVec 8) : Statement (.prefixMemIndD8 k R d) :=
  mem0 k (.indD8 R d)
theorem EncodedLength.prefixMemAbs8 (k : Option Size) (a : BitVec 8) : Statement (.prefixMemAbs8 k a) :=
  mem0 k (.abs8 a)
theorem EncodedLength.prefixMemAbs16 (k : Option Size) (a : BitVec 16) : Statement (.prefixMemAbs16 k a) :=
  mem0 k (.abs16 a)
theorem EncodedLength.prefixMemAbs24 (k : Option Size) (a : BitVec 24) : Statement (.prefixMemAbs24 k a) :=
  mem0 k (.abs24 a)
theorem EncodedLength.prefixMemReg (k : Option Size) (c : LongReg) : Statement (.prefixMemReg k c) :=
  mem0 k (.reg c)
theorem EncodedLength.prefixMemRegD16 (k : Option Size) (c : LongReg) (d : BitVec 16) : Statement (.prefixMemRegD16 k c d) :=
  mem0 k (.regD16 c d)
theorem EncodedLength.prefixMemRegR8 (k : Option Size) (c : LongReg) (e : RegSel) : Statement (.prefixMemRegR8 k c e) :=
  mem0 k (.regR8 c e)
theorem EncodedLength.prefixMemRegR16 (k : Option Size) (c : LongReg) (e : RegSel) : Statement (.prefixMemRegR16 k c e) :=
  mem0 k (.regR16 c e)
theorem EncodedLength.prefixMemPreDec (k : Option Size) (c : LongReg) (t : Step) : Statement (.prefixMemPreDec k c t) :=
  mem0 k (.preDec c t)
theorem EncodedLength.prefixMemPostInc (k : Option Size) (c : LongReg) (t : Step) : Statement (.prefixMemPostInc k c t) :=
  mem0 k (.postInc c t)
theorem EncodedLength.nop : Statement .nop := plain _ rfl
theorem EncodedLength.pushSr : Statement .pushSr := plain _ rfl
theorem EncodedLength.popSr : Statement .popSr := plain _ rfl
theorem EncodedLength.halt : Statement .halt := plain _ rfl
theorem EncodedLength.di : Statement .di := plain _ rfl
theorem EncodedLength.reti : Statement .reti := plain _ rfl
theorem EncodedLength.incf : Statement .incf := plain _ rfl
theorem EncodedLength.decf : Statement .decf := plain _ rfl
theorem EncodedLength.ret : Statement .ret := plain _ rfl
theorem EncodedLength.rcf : Statement .rcf := plain _ rfl
theorem EncodedLength.scf : Statement .scf := plain _ rfl
theorem EncodedLength.ccf : Statement .ccf := plain _ rfl
theorem EncodedLength.zcf : Statement .zcf := plain _ rfl
theorem EncodedLength.pushA : Statement .pushA := plain _ rfl
theorem EncodedLength.popA : Statement .popA := plain _ rfl
theorem EncodedLength.exFF : Statement .exFF := plain _ rfl
theorem EncodedLength.pushF : Statement .pushF := plain _ rfl
theorem EncodedLength.popF : Statement .popF := plain _ rfl
theorem EncodedLength.undefined01 : Statement .undefined01 := plain _ rfl
theorem EncodedLength.undefined04 : Statement .undefined04 := plain _ rfl
theorem EncodedLength.undefined50 : Statement .undefined50 := plain _ rfl
theorem EncodedLength.dummy1F : Statement .dummy1F := plain _ rfl
theorem EncodedLength.undefinedC6 : Statement .undefinedC6 := plain _ rfl
theorem EncodedLength.undefinedD6 : Statement .undefinedD6 := plain _ rfl
theorem EncodedLength.undefinedE6 : Statement .undefinedE6 := plain _ rfl
theorem EncodedLength.undefinedF6 : Statement .undefinedF6 := plain _ rfl
theorem EncodedLength.undefinedF7 : Statement .undefinedF7 := plain _ rfl
theorem EncodedLength.undefinedReg00 : Statement .undefinedReg00 := plain _ rfl
theorem EncodedLength.undefinedReg02 : Statement .undefinedReg02 := plain _ rfl
theorem EncodedLength.undefinedReg11 : Statement .undefinedReg11 := plain _ rfl
theorem EncodedLength.undefinedReg15 : Statement .undefinedReg15 := plain _ rfl
theorem EncodedLength.undefinedReg17 : Statement .undefinedReg17 := plain _ rfl
theorem EncodedLength.undefinedReg18 : Statement .undefinedReg18 := plain _ rfl
theorem EncodedLength.undefinedReg25 : Statement .undefinedReg25 := plain _ rfl
theorem EncodedLength.undefinedReg26 : Statement .undefinedReg26 := plain _ rfl
theorem EncodedLength.undefinedReg2D : Statement .undefinedReg2D := plain _ rfl
theorem EncodedLength.undefinedReg35 : Statement .undefinedReg35 := plain _ rfl
theorem EncodedLength.undefinedReg36 : Statement .undefinedReg36 := plain _ rfl
theorem EncodedLength.dummyReg1A : Statement .dummyReg1A := plain _ rfl
theorem EncodedLength.dummyReg1D : Statement .dummyReg1D := plain _ rfl
theorem EncodedLength.dummyReg1E : Statement .dummyReg1E := plain _ rfl
theorem EncodedLength.dummyReg3B : Statement .dummyReg3B := plain _ rfl
theorem EncodedLength.dummyReg3F : Statement .dummyReg3F := plain _ rfl
theorem EncodedLength.undefinedSrc00 : Statement .undefinedSrc00 := plain _ rfl
theorem EncodedLength.undefinedSrc05 : Statement .undefinedSrc05 := plain _ rfl
theorem EncodedLength.undefinedSrc08 : Statement .undefinedSrc08 := plain _ rfl
theorem EncodedLength.undefinedSrc18 : Statement .undefinedSrc18 := plain _ rfl
theorem EncodedLength.undefinedSrc1A : Statement .undefinedSrc1A := plain _ rfl
theorem EncodedLength.undefinedSrc1C : Statement .undefinedSrc1C := plain _ rfl
theorem EncodedLength.undefinedSrc28 : Statement .undefinedSrc28 := plain _ rfl
theorem EncodedLength.undefinedSrc70 : Statement .undefinedSrc70 := plain _ rfl
theorem EncodedLength.undefinedDst03 : Statement .undefinedDst03 := plain _ rfl
theorem EncodedLength.undefinedDst07 : Statement .undefinedDst07 := plain _ rfl
theorem EncodedLength.undefinedDst08 : Statement .undefinedDst08 := plain _ rfl
theorem EncodedLength.undefinedDst10 : Statement .undefinedDst10 := plain _ rfl
theorem EncodedLength.undefinedDst17 : Statement .undefinedDst17 := plain _ rfl
theorem EncodedLength.undefinedDst18 : Statement .undefinedDst18 := plain _ rfl
theorem EncodedLength.undefinedDst2D : Statement .undefinedDst2D := plain _ rfl
theorem EncodedLength.undefinedDst2E : Statement .undefinedDst2E := plain _ rfl
theorem EncodedLength.undefinedDst38 : Statement .undefinedDst38 := plain _ rfl
theorem EncodedLength.undefinedDst48 : Statement .undefinedDst48 := plain _ rfl
theorem EncodedLength.undefinedDst58 : Statement .undefinedDst58 := plain _ rfl
theorem EncodedLength.undefinedDst68 : Statement .undefinedDst68 := plain _ rfl
theorem EncodedLength.undefinedDst70 : Statement .undefinedDst70 := plain _ rfl
theorem EncodedLength.dummyDst01 : Statement .dummyDst01 := plain _ rfl
theorem EncodedLength.dummyDst05 : Statement .dummyDst05 := plain _ rfl
theorem EncodedLength.dummyDst15 : Statement .dummyDst15 := plain _ rfl

end Sys2Proof.Laws
end

