-- ==== Sys2Proof/Laws/Results.lean ====
section
/-! SUPPORT. What each shared computation gives, in the words of the spec, and what each shared operation
on a register or on memory leaves: the lemmas that proofs cite instead of unfolding the operations. -/

namespace Sys2Proof.Machine

/-! ### One write and the flags -/

theorem wroteReg_writeSel (s : State) {z : Size} {c : RegSel} (v : BitVec z.bits) (f : Flags) (k : Nat)
    (h : c.alignedAt z = true) : WroteReg s (((s.writeSel z c v).setFlags f).drew k) z c v f :=
  ⟨State.readSel_writeSel_same s v h, rfl, rfl, frame_writeSel s z c v⟩

theorem wroteReg_writeSel_plain (s : State) {z : Size} {c : RegSel} (v : BitVec z.bits)
    (h : c.alignedAt z = true) : WroteReg s (s.writeSel z c v) z c v s.flags :=
  ⟨State.readSel_writeSel_same s v h, rfl, rfl, frame_writeSel s z c v⟩

/-- A register part that keeps its value. -/
theorem wroteReg_flags (s : State) (z : Size) (c : RegSel) (f : Flags) (k : Nat) :
    WroteReg s ((s.setFlags f).drew k) z c (s.readSel z c) f :=
  ⟨rfl, rfl, rfl, Frame.refl s [(z, c)] []⟩

theorem wroteMem_store (s : State) {z : Size} (a : Addr) (v : BitVec z.bits) (f : Flags) (k : Nat) :
    WroteMem s (((s.store z a v).setFlags f).drew k) z a v f :=
  ⟨stored_store s z a v, fun _ hx => List.mem_append_left _ hx, rfl, rfl, frame_store s z a v⟩

theorem wroteMem_store_plain (s : State) {z : Size} (a : Addr) (v : BitVec z.bits) :
    WroteMem s (s.store z a v) z a v s.flags :=
  ⟨stored_store s z a v, fun _ hx => List.mem_append_left _ hx, rfl, rfl, frame_store s z a v⟩

/-- A push leaves what its words say. -/
theorem pushed_push (s : State) (z : Size) (v : BitVec z.bits) : Pushed s (s.push z v) z v s.pc :=
  ⟨State.xsp_push s z v, by rw [State.xsp_push]; exact stored_store _ _ _ _,
    fun _ hx => List.mem_append_left _ (by rwa [State.xsp_push] at hx), rfl, rfl,
    by rw [State.xsp_push]; exact frame_push s z v⟩

theorem wroteFlags_setFlags (s : State) (f : Flags) (k : Nat) : WroteFlags s ((s.setFlags f).drew k) f :=
  ⟨rfl, rfl, Frame.refl s [] []⟩

/-! ### Results of the arithmetic and logic operations -/

theorem signZero_of (z : Size) (v : BitVec z.bits) {f : Flags} (hs : f.s = v.msb) (hz : f.z = (v == 0)) :
    SignZero z v f := ⟨hs, by rw [hz, beq_iff_eq]⟩

/-- The parity flag says that the number of 1 bits is even. -/
theorem parityEven_iff (z : Size) (v : BitVec z.bits) : parityEven v = true ↔ EvenOnes z v := by
  have h : ∀ (l : List Nat) (b : Bool),
      l.foldl (fun even i => xor even (v.getLsbD i)) b
        = xor b (decide ((l.filter fun i => v.getLsbD i).length % 2 = 1)) := by
    intro l
    induction l with
    | nil => simp
    | cons i t ih =>
      intro b
      rw [List.foldl_cons, ih]
      cases hi : v.getLsbD i
      · simp [hi]
      · rcases Nat.mod_two_eq_zero_or_one (t.filter fun i => v.getLsbD i).length with h0 | h0 <;>
          cases b <;> simp [hi, Nat.add_mod, h0]
  rw [parityEven, h, EvenOnes]
  rcases Nat.mod_two_eq_zero_or_one ((List.range z.bits).filter fun i => v.getLsbD i).length
    with h0 | h0 <;> simp [h0]

theorem parityFlag_spec (z : Size) (v : BitVec z.bits) (u : Bool) :
    UnlessLong z (parityFlag z v u = true ↔ EvenOnes z v) := by
  intro hz
  cases z with
  | byte => exact parityEven_iff .byte v
  | word => exact parityEven_iff .word v
  | long => exact absurd rfl hz

theorem halfCarry_spec (z : Size) (b u : Bool) {p : Prop} (h : b = true ↔ p) :
    UnlessLong z (halfCarry z b u = true ↔ p) := by
  intro hz
  cases z with
  | byte => exact h
  | word => exact h
  | long => exact absurd rfl hz

/-- 42_arithmetic.md R220. -/
theorem addOf_spec (z : Size) (a b : BitVec z.bits) (cin u : Bool) :
    AddSpec z a b cin (addOf z a b cin u).value (addOf z a b cin u).flags := by
  refine ⟨BitVec.toNat_ofNat .., signZero_of z _ rfl rfl, ?_, ?_, rfl, ?_⟩
  · exact halfCarry_spec z _ u decide_eq_true_iff
  · simp [addOf]
  · exact decide_eq_true_iff

/-- 42_arithmetic.md R221. -/
theorem subOf_spec (z : Size) (a b : BitVec z.bits) (bin u : Bool) :
    SubSpec z a b bin (subOf z a b bin u).value (subOf z a b bin u).flags := by
  have hp : (0 : Int) < ((2 ^ z.bits : Nat) : Int) := by exact_mod_cast Nat.two_pow_pos z.bits
  refine ⟨?_, signZero_of z _ rfl rfl, ?_, ?_, rfl, ?_⟩
  · simp only [subOf, BitVec.toNat_ofInt]
    rw [Int.toNat_of_nonneg (Int.emod_nonneg _ (by omega))]
    norm_cast
  · exact halfCarry_spec z _ u decide_eq_true_iff
  · simp [subOf]
  · simp only [subOf, decide_eq_true_iff]
    omega

/-- 43_logic_bit.md R290. -/
theorem logicOf_spec (z : Size) (res : BitVec z.bits) (h u : Bool) :
    LogicFlags z h res (logicOf z res h u).flags :=
  ⟨signZero_of z _ rfl rfl, rfl, parityFlag_spec z res u, rfl, rfl⟩

/-- The eight operations of 42_arithmetic.md R234. -/
theorem aluOf_spec (op : AluOp) (z : Size) (a b : BitVec z.bits) (c u : Bool) :
    AluSpec op z a b c (aluOf op z a b c u).value (aluOf op z a b c u).flags := by
  cases op with
  | add => exact addOf_spec z a b false u
  | adc => exact addOf_spec z a b c u
  | sub => exact subOf_spec z a b false u
  | cp => exact subOf_spec z a b false u
  | sbc => exact subOf_spec z a b c u
  | and => exact ⟨rfl, logicOf_spec z _ true u⟩
  | xor => exact ⟨rfl, logicOf_spec z _ false u⟩
  | or => exact ⟨rfl, logicOf_spec z _ false u⟩

/-- An operation on a register (42_arithmetic.md R234). -/
theorem aluReg_spec (s : State) (op : AluOp) {z : Size} {d : RegSel} (b : BitVec z.bits)
    (h : d.alignedAt z = true) :
    ∃ v f, AluSpec op z (s.readSel z d) b s.flags.c v f
      ∧ WroteReg s (s.aluReg op z d b) z d (AluStored op z (s.readSel z d) v) f := by
  refine ⟨_, _, aluOf_spec op z (s.readSel z d) b s.flags.c (s.freeBit 0), ?_⟩
  cases op with
  | cp => exact wroteReg_flags s z d _ 1
  | _ =>
    simp only [State.aluReg, State.alu, aluWrites, if_true, AluStored]
    exact wroteReg_writeSel s _ _ 1 h

/-- An operation on memory, which CP does not store to (42_arithmetic.md R226, R234). -/
theorem aluMem_spec (s : State) (op : AluOp) (z : Size) (a : Addr) (b : BitVec z.bits) :
    ∃ v f, AluSpec op z (s.load z a) b s.flags.c v f
      ∧ (if op = .cp then WroteFlags (s.loaded z a) (s.aluMem op z a b) f
          else WroteMem (s.loaded z a) (s.aluMem op z a b) z a v f) := by
  refine ⟨_, _, aluOf_spec op z (s.load z a) b s.flags.c (s.freeBit 0), ?_⟩
  cases op with
  | cp => exact wroteFlags_setFlags (s.loaded z a) _ 1
  | _ =>
    simp only [reduceCtorEq, if_false, State.aluMem, State.alu, aluWrites, if_true]
    exact wroteMem_store (s.loaded z a) a _ _ 1

/-! ### Bits -/

/-- A bit put: the others are kept (43_logic_bit.md R306, R307). -/
theorem bitPut_putBit {n : Nat} (v : BitVec n) (i : Nat) (b : Bool) : BitPut v i b (putBit v i b) := by
  intro j
  by_cases hj : j < n
  · have hone : (1#n <<< i).getLsbD j = decide (j = i) := by
      rw [BitVec.getLsbD_shiftLeft, BitVec.getLsbD_one]
      by_cases h : j = i
      · subst h
        have : 0 < n := by omega
        simp [hj, this]
      · by_cases h2 : j < i
        · simp [h, h2]
        · have : ¬j - i = 0 := by omega
          simp [h, this]
    cases b
    · simp only [putBit, Bool.false_eq_true, if_false, BitVec.getLsbD_and, BitVec.getLsbD_not, hone, hj,
        decide_true, Bool.true_and]
      by_cases h : j = i
      · have : i < n := h ▸ hj
        simp [h, this]
      · simp [h]
    · simp only [putBit, if_true, BitVec.getLsbD_or, hone]
      by_cases h : j = i
      · have : i < n := h ▸ hj
        simp [h, this]
      · simp [h]
  · have h1 : v.getLsbD j = false := BitVec.getLsbD_of_ge v j (by omega)
    have h2 : (putBit v i b).getLsbD j = false := BitVec.getLsbD_of_ge _ j (by omega)
    rw [h1, h2, if_neg (by omega)]

theorem carryOf_eq (op : CarryOp) (c b : Bool) : carryOf op c b = CarrySpec op c b := by cases op <;> rfl

theorem bitOf_eq (op : BitOp) (b : Bool) : bitOf op b = BitSpec op b := by cases op <;> rfl

/-- ANDCF, ORCF, XORCF, LDCF (43_logic_bit.md R295). -/
theorem carryBit_spec (s : State) (op : CarryOp) {n : Nat} (v : BitVec n) (i : Nat) :
    ∃ f, WroteFlags s (s.carryBit op v i) f ∧ OnlyCarry s.flags f
      ∧ (i < n → f.c = CarrySpec op s.flags.c (v.getLsbD i)) := by
  refine ⟨(s.carryBit op v i).flags, ⟨rfl, rfl, Frame.refl s [] []⟩, ⟨rfl, rfl, rfl, rfl, rfl⟩,
    fun h => ?_⟩
  rw [← carryOf_eq]
  exact if_pos h

/-- The flags of BIT and TSET (43_logic_bit.md R305, R309). -/
theorem bitFlags_spec (s : State) {n : Nat} (v : BitVec n) (i : Nat) :
    TestSpec v i s.flags (s.bitFlags v i).flags ∧ WroteFlags s (s.bitFlags v i) (s.bitFlags v i).flags :=
  ⟨⟨fun h => if_pos h, rfl, rfl, rfl⟩, rfl, rfl, Frame.refl s [] []⟩

end Sys2Proof.Machine
end

