-- ==== Sys2Proof/Tests/Slice0.lean ====
section
/-! SUPPORT. Tests: the checks of WellFormed each refuse an ill-formed term; every row of
spec/opcode_table.json decodes from bytes written out from its encoding; the worked examples and derived
vectors of 95_test_vectors.md run as they say, one step each; and for every statement with hypotheses a
state and operands that meet them (`test_meets_…`). Registers are named by their register-map codes
(10_state.md R23). -/

namespace Sys2Proof.Tests

open Sys2Proof.Machine

/-! ### Helpers -/

def code (c : Nat) : RegSel := (RegSel.ofCode (BitVec.ofNat 8 c)).getD selA
def setB (c v : Nat) (s : State) : State := s.writeSel .byte (code c) (BitVec.ofNat _ v)
def setW (c v : Nat) (s : State) : State := s.writeSel .word (code c) (BitVec.ofNat _ v)
def setL (c v : Nat) (s : State) : State := s.writeSel .long (code c) (BitVec.ofNat _ v)
def setF (v : Nat) (s : State) : State := s.setFlags (Flags.ofByte (BitVec.ofNat 8 v))
def setAltF (v : Nat) (s : State) : State := { s with altFlags := Flags.ofByte (BitVec.ofNat 8 v) }
def setRfp (v : Nat) (s : State) : State := { s with rfp := BitVec.ofNat 2 v }
def setIff (v : Nat) (s : State) : State := { s with iff := BitVec.ofNat 3 v }
def setIn (l : List Input) (s : State) : State := { s with inputs := l }
def setM (a : Nat) (bs : List Nat) (s : State) : State :=
  { s with bus := s.bus.place (BitVec.ofNat 32 a) (bs.map (BitVec.ofNat 8)) }
def getB (c : Nat) (s : State) : Nat := (s.readSel .byte (code c)).toNat
def getW (c : Nat) (s : State) : Nat := (s.readSel .word (code c)).toNat
def getL (c : Nat) (s : State) : Nat := (s.readSel .long (code c)).toNat
/-- `n` bytes of memory at `a`, little-endian. -/
def getM (n a : Nat) (s : State) : Nat := s.bus.loadLE n (BitVec.ofNat 32 a)
/-- The bits of F under a mask (10_state.md R33); the others may be open and are not looked at. -/
def isF (mask v : Nat) (s : State) : Bool :=
  (!mask.testBit 7 || s.flags.s == v.testBit 7) && (!mask.testBit 6 || s.flags.z == v.testBit 6)
    && (!mask.testBit 4 || s.flags.h == v.testBit 4) && (!mask.testBit 2 || s.flags.v == v.testBit 2)
    && (!mask.testBit 1 || s.flags.n == v.testBit 1) && (!mask.testBit 0 || s.flags.c == v.testBit 0)

/-- After reset, with PC at 7000H. -/
def ini : State := { State.reset with pc := 0x7000#32 }

/-- ROM at 8000H to 8FFFH, a device at 9000H to 90FFH, nothing at A000H to AFFFH, RAM elsewhere. -/
def exampleMap : MemoryMap := [⟨0x8000, 0x8FFF, .rom⟩, ⟨0x9000, 0x90FF, .device⟩, ⟨0xA000, 0xAFFF, .absent⟩]

/-- After reset over that map, with PC at 7000H. -/
def iniMapped : State := { State.resetWith ⟨exampleMap, [], []⟩ with pc := 0x7000#32 }

/-- One step with bytes at an address and PC there answers a next state with a property. -/
def one (pc : Nat) (bs : List Nat) (s : State) (p : State → Bool) : Bool :=
  match step { setM pc bs s with pc := BitVec.ofNat 32 pc } with
  | .next t => p t
  | _ => false

/-- One step at the state as it is answers a next state with a property. -/
def oneAt (s : State) (p : State → Bool) : Bool :=
  match step s with
  | .next t => p t
  | _ => false

/-- One step with bytes at an address and PC there ends in a fault. -/
def stops (bs : List Nat) (f : Fault) (pc : Nat := 0x7000) : Bool :=
  match step { setM pc bs ini with pc := BitVec.ofNat 32 pc } with
  | .fault g => g == f
  | _ => false

/-- What an instruction answers, or the state itself. -/
def thenState (s : State) (i : Instr) : State :=
  match exec i s with
  | .next t => t
  | _ => s

/-! ### WellFormed refuses -/

/-- A register code that is odd for a word, or not a multiple of 4 for a long word (10_state.md R23). -/
theorem test_refuses_misaligned :
    (Instr.ldrImmW (.ext ⟨⟨.cur, 0#2⟩, 1#2⟩) 0#16).wellFormed = false
    ∧ (Instr.ldrImmL (.ext ⟨⟨.cur, 0#2⟩, 2#2⟩) 0#32).wellFormed = false
    ∧ (Instr.prefixRegExt .word ⟨⟨.cur, 0#2⟩, 3#2⟩).wellFormed = false
    ∧ (Instr.ldRMem .byte 1#3 (.regR16 ⟨.cur, 0#2⟩ ⟨⟨.cur, 1#2⟩, 1#2⟩)).wellFormed = false
    ∧ (Instr.prefixMemRegR16 none ⟨.cur, 0#2⟩ ⟨⟨.cur, 1#2⟩, 1#2⟩).wellFormed = false := by decide

/-- A size the row does not list (30_encoding.md R117, R119, R121). -/
theorem test_refuses_size :
    (Instr.cpl .long (.short 0#3)).wellFormed = false
    ∧ (Instr.extz .byte (.short 0#3)).wellFormed = false
    ∧ (Instr.pushMem .long (.ind 0#3)).wellFormed = false
    ∧ (Instr.ldiDeHl .long).wellFormed = false
    ∧ (Instr.mulRr .long 1#3 (.short 1#3)).wellFormed = false := by decide

/-- A destination of no register of twice the operation size (42_arithmetic.md R241, R246). -/
theorem test_refuses_pair :
    (Instr.mulRr .byte 0#3 (.short 0#3)).wellFormed = false
    ∧ (Instr.divRMem .byte 2#3 (.ind 0#3)).wellFormed = false
    ∧ (Instr.mulrImmB (.short 4#3) 0#8).wellFormed = false
    ∧ (Instr.divsrImmB (.ext ⟨⟨.cur, 0#2⟩, 1#2⟩) 0#8).wellFormed = false
    ∧ (Instr.mulsrImmW (.ext ⟨⟨.cur, 0#2⟩, 2#2⟩) 0#16).wellFormed = false
    ∧ (Instr.mula (.ext ⟨⟨.cur, 0#2⟩, 2#2⟩)).wellFormed = false := by decide

/-- A control register of another size (10_state.md R45), and EI 7, which is DI (44_cpu_control.md R341). -/
theorem test_refuses_control_size_and_ei7 :
    (Instr.ldcCrr .byte (.dmac 0) (.short 0#3)).wellFormed = false
    ∧ (Instr.ldcrCr .long (.short 0#3) .intnest).wellFormed = false
    ∧ (Instr.ei 7#3).wellFormed = false := by decide

/-! ### Decoding: every row of the table, from bytes written out from its encoding -/

theorem test_decode_one_byte_opcodes : ∀ p ∈ ([
    ([0x00#8], .nop), ([0x02#8], .pushSr), ([0x03#8], .popSr), ([0x05#8], .halt),
    ([0x06#8, 0x04#8], .ei 4#3), ([0x06#8, 0x07#8], .di), ([0x07#8], .reti),
    ([0x08#8, 0x82#8, 0xb7#8], .ldAbs8Imm 0x82#8 0xb7#8), ([0x09#8, 0x0e#8], .pushImm 0xe#8),
    ([0x0a#8, 0xee#8, 0x83#8, 0x7f#8], .ldwAbs8Imm 0xee#8 0x7f83#16),
    ([0x0b#8, 0x8c#8, 0x1a#8], .pushwImm 0x1a8c#16), ([0x0c#8], .incf), ([0x0d#8], .decf),
    ([0x0e#8], .ret), ([0x0f#8, 0x4e#8, 0x50#8], .retd 0x504e#16), ([0x10#8], .rcf), ([0x11#8], .scf),
    ([0x12#8], .ccf), ([0x13#8], .zcf), ([0x14#8], .pushA), ([0x15#8], .popA), ([0x16#8], .exFF),
    ([0x17#8, 0x00#8], .ldf 0#2), ([0x18#8], .pushF), ([0x19#8], .popF),
    ([0x1a#8, 0x5b#8, 0xbe#8], .jpAbs16 0xbe5b#16),
    ([0x1b#8, 0xd1#8, 0x29#8, 0xf0#8], .jpAbs24 0xf029d1#24),
    ([0x1c#8, 0x3e#8, 0x7e#8], .callAbs16 0x7e3e#16),
    ([0x1d#8, 0xb3#8, 0xf2#8, 0xc2#8], .callAbs24 0xc2f2b3#24),
    ([0x1e#8, 0x35#8, 0x34#8], .calr 0x3435#16), ([0x23#8, 0x06#8], .ldRImmB 3#3 0x6#8),
    ([0x2b#8], .pushRW 3#3), ([0x36#8, 0x18#8, 0x8f#8], .ldRImmW 6#3 0x8f18#16),
    ([0x3a#8], .pushRL 2#3), ([0x46#8, 0x57#8, 0xd3#8, 0x11#8, 0xcc#8], .ldRImmL 6#3 0xcc11d357#32),
    ([0x4a#8], .popRW 2#3), ([0x5f#8], .popRL 7#3), ([0x64#8, 0x43#8], .jr .ov 0x43#8),
    ([0x70#8, 0xb8#8, 0x02#8], .jrl .f 0x2b8#16), ([0xfb#8], .swi 3#3)] : List (List Byte × Instr)),
    decode p.1 = .ok (p.2, []) := by decide

theorem test_decode_after_register_prefix_1 : ∀ p ∈ ([
    ([0xcb#8, 0x03#8, 0x54#8], .ldrImmB (.short 3#3) 0x54#8),
    ([0xd7#8, 0x32#8, 0x03#8, 0x1f#8, 0x94#8], .ldrImmW (.ext ⟨⟨.bank 3#2, 0#2⟩, 2#2⟩) 0x941f#16),
    ([0xed#8, 0x03#8, 0xf2#8, 0x6b#8, 0x23#8, 0xf6#8], .ldrImmL (.short 5#3) 0xf6236bf2#32),
    ([0xdb#8, 0x04#8], .pushr .word (.short 3#3)),
    ([0xe7#8, 0x14#8, 0x05#8], .popr .long (.ext ⟨⟨.bank 1#2, 1#2⟩, 0#2⟩)),
    ([0xdb#8, 0x06#8], .cpl .word (.short 3#3)), ([0xce#8, 0x07#8], .neg .byte (.short 6#3)),
    ([0xc7#8, 0xd0#8, 0x08#8, 0x0b#8], .mulrImmB (.ext ⟨⟨.prev, 0#2⟩, 0#2⟩) 0xb#8),
    ([0xdd#8, 0x08#8, 0x6e#8, 0xd4#8], .mulrImmW (.short 5#3) 0xd46e#16),
    ([0xcb#8, 0x09#8, 0x4a#8], .mulsrImmB (.short 3#3) 0x4a#8),
    ([0xd7#8, 0xd4#8, 0x09#8, 0x59#8, 0x21#8], .mulsrImmW (.ext ⟨⟨.prev, 1#2⟩, 0#2⟩) 0x2159#16),
    ([0xcd#8, 0x0a#8, 0x9a#8], .divrImmB (.short 5#3) 0x9a#8),
    ([0xd9#8, 0x0a#8, 0x00#8, 0xad#8], .divrImmW (.short 1#3) 0xad00#16),
    ([0xc7#8, 0xd0#8, 0x0b#8, 0x9e#8], .divsrImmB (.ext ⟨⟨.prev, 0#2⟩, 0#2⟩) 0x9e#8),
    ([0xdd#8, 0x0b#8, 0xb4#8, 0x9c#8], .divsrImmW (.short 5#3) 0x9cb4#16),
    ([0xef#8, 0x0c#8, 0xaf#8, 0xa1#8], .link (.short 7#3) 0xa1af#16),
    ([0xe7#8, 0x14#8, 0x0d#8], .unlk (.ext ⟨⟨.bank 1#2, 1#2⟩, 0#2⟩)),
    ([0xdf#8, 0x0e#8], .bs1f (.short 7#3)), ([0xdf#8, 0x0f#8], .bs1b (.short 7#3)),
    ([0xc7#8, 0x31#8, 0x10#8], .daa (.ext ⟨⟨.bank 3#2, 0#2⟩, 1#2⟩)),
    ([0xd8#8, 0x12#8], .extz .word (.short 0#3)), ([0xec#8, 0x13#8], .exts .long (.short 4#3)),
    ([0xd7#8, 0xee#8, 0x14#8], .paa .word (.ext ⟨⟨.cur, 3#2⟩, 2#2⟩)),
    ([0xdd#8, 0x16#8], .mirr (.short 5#3)), ([0xde#8, 0x19#8], .mula (.short 6#3)),
    ([0xd7#8, 0xee#8, 0x1c#8, 0xd6#8], .djnz .word (.ext ⟨⟨.cur, 3#2⟩, 2#2⟩) 0xd6#8),
    ([0xcd#8, 0x20#8, 0x0c#8], .andcfNumr .byte 12#4 (.short 5#3)),
    ([0xd8#8, 0x28#8], .andcfAr .word (.short 0#3)),
    ([0xc7#8, 0xf7#8, 0x21#8, 0x01#8], .orcfNumr .byte 1#4 (.ext ⟨⟨.unbanked, 1#2⟩, 3#2⟩)),
    ([0xda#8, 0x29#8], .orcfAr .word (.short 2#3)),
    ([0xcb#8, 0x22#8, 0x03#8], .xorcfNumr .byte 3#4 (.short 3#3)),
    ([0xd7#8, 0x32#8, 0x2a#8], .xorcfAr .word (.ext ⟨⟨.bank 3#2, 0#2⟩, 2#2⟩)),
    ([0xcf#8, 0x23#8, 0x0b#8], .ldcfNumr .byte 11#4 (.short 7#3)),
    ([0xdd#8, 0x2b#8], .ldcfAr .word (.short 5#3)),
    ([0xc7#8, 0xd0#8, 0x24#8, 0x0e#8], .stcfNumr .byte 14#4 (.ext ⟨⟨.prev, 0#2⟩, 0#2⟩)),
    ([0xd9#8, 0x2c#8], .stcfAr .word (.short 1#3)),
    ([0xdd#8, 0x2e#8, 0x7c#8], .ldcCrr .word .intnest (.short 5#3))] : List (List Byte × Instr)),
    decode p.1 = .ok (p.2, []) := by decide

theorem test_decode_after_register_prefix_2 : ∀ p ∈ ([
    ([0xe7#8, 0xf4#8, 0x2f#8, 0x1c#8], .ldcrCr .long (.ext ⟨⟨.unbanked, 1#2⟩, 0#2⟩) (.dmas 7)),
    ([0xcd#8, 0x30#8, 0x0b#8], .resNumr .byte 11#4 (.short 5#3)),
    ([0xda#8, 0x31#8, 0x0a#8], .setNumr .word 10#4 (.short 2#3)),
    ([0xc7#8, 0xd0#8, 0x32#8, 0x02#8], .chgNumr .byte 2#4 (.ext ⟨⟨.prev, 0#2⟩, 0#2⟩)),
    ([0xdc#8, 0x33#8, 0x0a#8], .bitNumr .word 10#4 (.short 4#3)),
    ([0xcc#8, 0x34#8, 0x05#8], .tsetNumr .byte 5#4 (.short 4#3)),
    ([0xd7#8, 0xee#8, 0x38#8, 0x38#8, 0x4c#8], .minc1 0x4c38#16 (.ext ⟨⟨.cur, 3#2⟩, 2#2⟩)),
    ([0xdc#8, 0x39#8, 0xb3#8, 0xf7#8], .minc2 0xf7b3#16 (.short 4#3)),
    ([0xda#8, 0x3a#8, 0xdb#8, 0x18#8], .minc4 0x18db#16 (.short 2#3)),
    ([0xd7#8, 0xee#8, 0x3c#8, 0xd0#8, 0xcf#8], .mdec1 0xcfd0#16 (.ext ⟨⟨.cur, 3#2⟩, 2#2⟩)),
    ([0xd8#8, 0x3d#8, 0x84#8, 0x79#8], .mdec2 0x7984#16 (.short 0#3)),
    ([0xdd#8, 0x3e#8, 0x1b#8, 0x80#8], .mdec4 0x801b#16 (.short 5#3)),
    ([0xd7#8, 0xd4#8, 0x47#8], .mulRr .word 7#3 (.ext ⟨⟨.prev, 1#2⟩, 0#2⟩)),
    ([0xcb#8, 0x49#8], .mulsRr .byte 1#3 (.short 3#3)),
    ([0xd9#8, 0x57#8], .divRr .word 7#3 (.short 1#3)),
    ([0xc7#8, 0xd0#8, 0x5b#8], .divsRr .byte 3#3 (.ext ⟨⟨.prev, 0#2⟩, 0#2⟩)),
    ([0xca#8, 0x62#8], .incNumr .byte 2#3 (.short 2#3)),
    ([0xde#8, 0x69#8], .decNumr .word 1#3 (.short 6#3)),
    ([0xd7#8, 0x32#8, 0x7d#8], .scc .word .pl (.ext ⟨⟨.bank 3#2, 0#2⟩, 2#2⟩)),
    ([0xcd#8, 0x82#8], .addRr .byte 2#3 (.short 5#3)),
    ([0xd8#8, 0x96#8], .adcRr .word 6#3 (.short 0#3)),
    ([0xe7#8, 0xdc#8, 0xa2#8], .subRr .long 2#3 (.ext ⟨⟨.prev, 3#2⟩, 0#2⟩)),
    ([0xcf#8, 0xb2#8], .sbcRr .byte 2#3 (.short 7#3)),
    ([0xdf#8, 0xc7#8], .andRr .word 7#3 (.short 7#3)),
    ([0xe7#8, 0xdc#8, 0xd7#8], .xorRr .long 7#3 (.ext ⟨⟨.prev, 3#2⟩, 0#2⟩)),
    ([0xcc#8, 0xe4#8], .orRr .byte 4#3 (.short 4#3)), ([0xdf#8, 0xf6#8], .cpRr .word 6#3 (.short 7#3)),
    ([0xe7#8, 0x14#8, 0x89#8], .ldRr .long 1#3 (.ext ⟨⟨.bank 1#2, 1#2⟩, 0#2⟩)),
    ([0xce#8, 0x9a#8], .ldrR .byte (.short 6#3) 2#3),
    ([0xdf#8, 0xad#8], .ldrNum3 .word (.short 7#3) 5#3),
    ([0xd7#8, 0x32#8, 0xb9#8], .exRr .word 1#3 (.ext ⟨⟨.bank 3#2, 0#2⟩, 2#2⟩)),
    ([0xcf#8, 0xc8#8, 0x8b#8], .addrImmB (.short 7#3) 0x8b#8),
    ([0xdd#8, 0xc8#8, 0x4f#8, 0x20#8], .addrImmW (.short 5#3) 0x204f#16),
    ([0xe7#8, 0xdc#8, 0xc8#8, 0xe9#8, 0x1c#8, 0xfd#8, 0xa9#8], .addrImmL (.ext ⟨⟨.prev, 3#2⟩, 0#2⟩) 0xa9fd1ce9#32),
    ([0xcc#8, 0xc9#8, 0xba#8], .adcrImmB (.short 4#3) 0xba#8),
    ([0xdc#8, 0xc9#8, 0xab#8, 0xf8#8], .adcrImmW (.short 4#3) 0xf8ab#16),
    ([0xe7#8, 0xdc#8, 0xc9#8, 0x8d#8, 0x67#8, 0x0f#8, 0xf2#8], .adcrImmL (.ext ⟨⟨.prev, 3#2⟩, 0#2⟩) 0xf20f678d#32)] : List (List Byte × Instr)),
    decode p.1 = .ok (p.2, []) := by decide

theorem test_decode_after_register_prefix_3 : ∀ p ∈ ([
    ([0xca#8, 0xca#8, 0x05#8], .subrImmB (.short 2#3) 0x5#8),
    ([0xdf#8, 0xca#8, 0x5a#8, 0x80#8], .subrImmW (.short 7#3) 0x805a#16),
    ([0xe7#8, 0xdc#8, 0xca#8, 0x69#8, 0xca#8, 0xf0#8, 0xab#8], .subrImmL (.ext ⟨⟨.prev, 3#2⟩, 0#2⟩) 0xabf0ca69#32),
    ([0xcf#8, 0xcb#8, 0x93#8], .sbcrImmB (.short 7#3) 0x93#8),
    ([0xdd#8, 0xcb#8, 0x1d#8, 0xb2#8], .sbcrImmW (.short 5#3) 0xb21d#16),
    ([0xe7#8, 0xdc#8, 0xcb#8, 0x58#8, 0x51#8, 0xe1#8, 0xa4#8], .sbcrImmL (.ext ⟨⟨.prev, 3#2⟩, 0#2⟩) 0xa4e15158#32),
    ([0xce#8, 0xcc#8, 0xb3#8], .andrImmB (.short 6#3) 0xb3#8),
    ([0xda#8, 0xcc#8, 0x4a#8, 0xe6#8], .andrImmW (.short 2#3) 0xe64a#16),
    ([0xe7#8, 0xdc#8, 0xcc#8, 0x8f#8, 0x43#8, 0xde#8, 0xf4#8], .andrImmL (.ext ⟨⟨.prev, 3#2⟩, 0#2⟩) 0xf4de438f#32),
    ([0xca#8, 0xcd#8, 0x55#8], .xorrImmB (.short 2#3) 0x55#8),
    ([0xdb#8, 0xcd#8, 0x5b#8, 0xb9#8], .xorrImmW (.short 3#3) 0xb95b#16),
    ([0xe7#8, 0xf4#8, 0xcd#8, 0x09#8, 0x7c#8, 0xa8#8, 0x6a#8], .xorrImmL (.ext ⟨⟨.unbanked, 1#2⟩, 0#2⟩) 0x6aa87c09#32),
    ([0xce#8, 0xce#8, 0x9a#8], .orrImmB (.short 6#3) 0x9a#8),
    ([0xdc#8, 0xce#8, 0x24#8, 0x0e#8], .orrImmW (.short 4#3) 0xe24#16),
    ([0xe7#8, 0x14#8, 0xce#8, 0x77#8, 0x12#8, 0x6e#8, 0xa6#8], .orrImmL (.ext ⟨⟨.bank 1#2, 1#2⟩, 0#2⟩) 0xa66e1277#32),
    ([0xcb#8, 0xcf#8, 0x5c#8], .cprImmB (.short 3#3) 0x5c#8),
    ([0xd8#8, 0xcf#8, 0x73#8, 0xf1#8], .cprImmW (.short 0#3) 0xf173#16),
    ([0xe7#8, 0x14#8, 0xcf#8, 0xd6#8, 0x4b#8, 0x6e#8, 0x2a#8], .cprImmL (.ext ⟨⟨.bank 1#2, 1#2⟩, 0#2⟩) 0x2a6e4bd6#32),
    ([0xca#8, 0xd9#8], .cprNum3 .byte (.short 2#3) 1#3),
    ([0xdd#8, 0xe8#8, 0x05#8], .rlcNumr .word 5#4 (.short 5#3)),
    ([0xe7#8, 0xf4#8, 0xe9#8, 0x06#8], .rrcNumr .long 6#4 (.ext ⟨⟨.unbanked, 1#2⟩, 0#2⟩)),
    ([0xc8#8, 0xea#8, 0x0d#8], .rlNumr .byte 13#4 (.short 0#3)),
    ([0xdf#8, 0xeb#8, 0x0b#8], .rrNumr .word 11#4 (.short 7#3)),
    ([0xe7#8, 0xf4#8, 0xec#8, 0x02#8], .slaNumr .long 2#4 (.ext ⟨⟨.unbanked, 1#2⟩, 0#2⟩)),
    ([0xcb#8, 0xed#8, 0x07#8], .sraNumr .byte 7#4 (.short 3#3)),
    ([0xdd#8, 0xee#8, 0x00#8], .sllNumr .word 0#4 (.short 5#3)),
    ([0xe7#8, 0xdc#8, 0xef#8, 0x0c#8], .srlNumr .long 12#4 (.ext ⟨⟨.prev, 3#2⟩, 0#2⟩)),
    ([0xcc#8, 0xf8#8], .rlcAr .byte (.short 4#3)), ([0xde#8, 0xf9#8], .rrcAr .word (.short 6#3)),
    ([0xe7#8, 0xe8#8, 0xfa#8], .rlAr .long (.ext ⟨⟨.cur, 2#2⟩, 0#2⟩)),
    ([0xcd#8, 0xfb#8], .rrAr .byte (.short 5#3)), ([0xd8#8, 0xfc#8], .slaAr .word (.short 0#3)),
    ([0xe7#8, 0xdc#8, 0xfd#8], .sraAr .long (.ext ⟨⟨.prev, 3#2⟩, 0#2⟩)),
    ([0xc9#8, 0xfe#8], .sllAr .byte (.short 1#3)), ([0xdc#8, 0xff#8], .srlAr .word (.short 4#3))] : List (List Byte × Instr)),
    decode p.1 = .ok (p.2, []) := by decide

theorem test_decode_after_source_prefix_1 : ∀ p ∈ ([
    ([0xd3#8, 0xf1#8, 0x34#8, 0x82#8, 0x04#8], .pushMem .word (.regD16 ⟨.unbanked, 0#2⟩ 0x8234#16)),
    ([0xc3#8, 0x03#8, 0xf0#8, 0xe0#8, 0x06#8], .rld (.regR8 ⟨.unbanked, 0#2⟩ ⟨⟨.cur, 0#2⟩, 0#2⟩)),
    ([0xc3#8, 0x07#8, 0x24#8, 0xea#8, 0x07#8], .rrd (.regR16 ⟨.bank 2#2, 1#2⟩ ⟨⟨.cur, 2#2⟩, 2#2⟩)),
    ([0x83#8, 0x10#8], .ldiDeHl .byte), ([0x95#8, 0x10#8], .ldiIxIy .word),
    ([0x83#8, 0x11#8], .ldirDeHl .byte), ([0x95#8, 0x11#8], .ldirIxIy .word),
    ([0x83#8, 0x12#8], .lddDeHl .byte), ([0x95#8, 0x12#8], .lddIxIy .word),
    ([0x83#8, 0x13#8], .lddrDeHl .byte), ([0x95#8, 0x13#8], .lddrIxIy .word),
    ([0x85#8, 0x14#8], .cpi .byte 5#3), ([0x94#8, 0x15#8], .cpir .word 4#3),
    ([0x85#8, 0x16#8], .cpd .byte 5#3), ([0x92#8, 0x17#8], .cpdr .word 2#3),
    ([0xc5#8, 0xee#8, 0x19#8, 0x94#8, 0xd6#8], .ldAbs16Mem .byte 0xd694#16 (.postInc ⟨.cur, 3#2⟩ .four)),
    ([0x83#8, 0x26#8], .ldRMem .byte 6#3 (.ind 3#3)),
    ([0x8d#8, 0xfe#8, 0x35#8], .exMemR .byte (.indD8 5#3 0xfe#8) 5#3),
    ([0xc0#8, 0x34#8, 0x38#8, 0xef#8], .addMemImmB (.abs8 0x34#8) 0xef#8),
    ([0xd1#8, 0x34#8, 0x12#8, 0x38#8, 0xc2#8, 0x48#8], .addMemImmW (.abs16 0x1234#16) 0x48c2#16),
    ([0xc2#8, 0x56#8, 0x34#8, 0x12#8, 0x39#8, 0x50#8], .adcMemImmB (.abs24 0x123456#24) 0x50#8),
    ([0xd3#8, 0xe4#8, 0x39#8, 0xf7#8, 0xc3#8], .adcMemImmW (.reg ⟨.cur, 1#2⟩) 0xc3f7#16),
    ([0xc3#8, 0xf1#8, 0x34#8, 0x82#8, 0x3a#8, 0xf4#8], .subMemImmB (.regD16 ⟨.unbanked, 0#2⟩ 0x8234#16) 0xf4#8),
    ([0xd3#8, 0x03#8, 0xf0#8, 0xe0#8, 0x3a#8, 0xf7#8, 0x65#8], .subMemImmW (.regR8 ⟨.unbanked, 0#2⟩ ⟨⟨.cur, 0#2⟩, 0#2⟩) 0x65f7#16),
    ([0xc3#8, 0x07#8, 0x24#8, 0xea#8, 0x3b#8, 0x44#8], .sbcMemImmB (.regR16 ⟨.bank 2#2, 1#2⟩ ⟨⟨.cur, 2#2⟩, 2#2⟩) 0x44#8),
    ([0xd4#8, 0xf1#8, 0x3b#8, 0x81#8, 0x2e#8], .sbcMemImmW (.preDec ⟨.unbanked, 0#2⟩ .two) 0x2e81#16),
    ([0xc5#8, 0xee#8, 0x3c#8, 0xb3#8], .andMemImmB (.postInc ⟨.cur, 3#2⟩ .four) 0xb3#8),
    ([0x93#8, 0x3c#8, 0x7c#8, 0x00#8], .andMemImmW (.ind 3#3) 0x7c#16),
    ([0x8d#8, 0xfe#8, 0x3d#8, 0xc3#8], .xorMemImmB (.indD8 5#3 0xfe#8) 0xc3#8),
    ([0xd0#8, 0x34#8, 0x3d#8, 0x41#8, 0x37#8], .xorMemImmW (.abs8 0x34#8) 0x3741#16),
    ([0xc1#8, 0x34#8, 0x12#8, 0x3e#8, 0xa6#8], .orMemImmB (.abs16 0x1234#16) 0xa6#8),
    ([0xd2#8, 0x56#8, 0x34#8, 0x12#8, 0x3e#8, 0x09#8, 0x48#8], .orMemImmW (.abs24 0x123456#24) 0x4809#16)] : List (List Byte × Instr)),
    decode p.1 = .ok (p.2, []) := by decide

theorem test_decode_after_source_prefix_2 : ∀ p ∈ ([
    ([0xc3#8, 0xe4#8, 0x3f#8, 0xa6#8], .cpMemImmB (.reg ⟨.cur, 1#2⟩) 0xa6#8),
    ([0xd3#8, 0xf1#8, 0x34#8, 0x82#8, 0x3f#8, 0x6f#8, 0xc0#8], .cpMemImmW (.regD16 ⟨.unbanked, 0#2⟩ 0x8234#16) 0xc06f#16),
    ([0xd3#8, 0x03#8, 0xf0#8, 0xe0#8, 0x47#8], .mulRMem .word 7#3 (.regR8 ⟨.unbanked, 0#2⟩ ⟨⟨.cur, 0#2⟩, 0#2⟩)),
    ([0xc3#8, 0x07#8, 0x24#8, 0xea#8, 0x4f#8], .mulsRMem .byte 7#3 (.regR16 ⟨.bank 2#2, 1#2⟩ ⟨⟨.cur, 2#2⟩, 2#2⟩)),
    ([0xd4#8, 0xf1#8, 0x53#8], .divRMem .word 3#3 (.preDec ⟨.unbanked, 0#2⟩ .two)),
    ([0xc5#8, 0xee#8, 0x5f#8], .divsRMem .byte 7#3 (.postInc ⟨.cur, 3#2⟩ .four)),
    ([0x93#8, 0x64#8], .incNumMem .word 4#3 (.ind 3#3)),
    ([0x8d#8, 0xfe#8, 0x6f#8], .decNumMem .byte 7#3 (.indD8 5#3 0xfe#8)),
    ([0xd0#8, 0x34#8, 0x78#8], .rlcMem .word (.abs8 0x34#8)),
    ([0xc1#8, 0x34#8, 0x12#8, 0x79#8], .rrcMem .byte (.abs16 0x1234#16)),
    ([0xd2#8, 0x56#8, 0x34#8, 0x12#8, 0x7a#8], .rlMem .word (.abs24 0x123456#24)),
    ([0xc3#8, 0xe4#8, 0x7b#8], .rrMem .byte (.reg ⟨.cur, 1#2⟩)),
    ([0xd3#8, 0xf1#8, 0x34#8, 0x82#8, 0x7c#8], .slaMem .word (.regD16 ⟨.unbanked, 0#2⟩ 0x8234#16)),
    ([0xc3#8, 0x03#8, 0xf0#8, 0xe0#8, 0x7d#8], .sraMem .byte (.regR8 ⟨.unbanked, 0#2⟩ ⟨⟨.cur, 0#2⟩, 0#2⟩)),
    ([0xd3#8, 0x07#8, 0x24#8, 0xea#8, 0x7e#8], .sllMem .word (.regR16 ⟨.bank 2#2, 1#2⟩ ⟨⟨.cur, 2#2⟩, 2#2⟩)),
    ([0xc4#8, 0xf1#8, 0x7f#8], .srlMem .byte (.preDec ⟨.unbanked, 0#2⟩ .two)),
    ([0xe5#8, 0xee#8, 0x86#8], .addRMem .long 6#3 (.postInc ⟨.cur, 3#2⟩ .four)),
    ([0x83#8, 0x8e#8], .addMemR .byte (.ind 3#3) 6#3),
    ([0x9d#8, 0xfe#8, 0x92#8], .adcRMem .word 2#3 (.indD8 5#3 0xfe#8)),
    ([0xe0#8, 0x34#8, 0x9c#8], .adcMemR .long (.abs8 0x34#8) 4#3),
    ([0xc1#8, 0x34#8, 0x12#8, 0xa4#8], .subRMem .byte 4#3 (.abs16 0x1234#16)),
    ([0xd2#8, 0x56#8, 0x34#8, 0x12#8, 0xaf#8], .subMemR .word (.abs24 0x123456#24) 7#3),
    ([0xe3#8, 0xe4#8, 0xb4#8], .sbcRMem .long 4#3 (.reg ⟨.cur, 1#2⟩)),
    ([0xc3#8, 0xf1#8, 0x34#8, 0x82#8, 0xbe#8], .sbcMemR .byte (.regD16 ⟨.unbanked, 0#2⟩ 0x8234#16) 6#3),
    ([0xd3#8, 0x03#8, 0xf0#8, 0xe0#8, 0xc0#8], .andRMem .word 0#3 (.regR8 ⟨.unbanked, 0#2⟩ ⟨⟨.cur, 0#2⟩, 0#2⟩)),
    ([0xe3#8, 0x07#8, 0x24#8, 0xea#8, 0xcd#8], .andMemR .long (.regR16 ⟨.bank 2#2, 1#2⟩ ⟨⟨.cur, 2#2⟩, 2#2⟩) 5#3),
    ([0xc4#8, 0xf1#8, 0xd4#8], .xorRMem .byte 4#3 (.preDec ⟨.unbanked, 0#2⟩ .two)),
    ([0xd5#8, 0xee#8, 0xdf#8], .xorMemR .word (.postInc ⟨.cur, 3#2⟩ .four) 7#3),
    ([0xa3#8, 0xe4#8], .orRMem .long 4#3 (.ind 3#3)),
    ([0x8d#8, 0xfe#8, 0xea#8], .orMemR .byte (.indD8 5#3 0xfe#8) 2#3),
    ([0xd0#8, 0x34#8, 0xf7#8], .cpRMem .word 7#3 (.abs8 0x34#8)),
    ([0xe1#8, 0x34#8, 0x12#8, 0xf8#8], .cpMemR .long (.abs16 0x1234#16) 0#3)] : List (List Byte × Instr)),
    decode p.1 = .ok (p.2, []) := by decide

theorem test_decode_after_destination_prefix : ∀ p ∈ ([
    ([0xf2#8, 0x56#8, 0x34#8, 0x12#8, 0x00#8, 0x3e#8], .ldMemImm (.abs24 0x123456#24) 0x3e#8),
    ([0xf3#8, 0xe4#8, 0x02#8, 0x0e#8, 0xe3#8], .ldwMemImm (.reg ⟨.cur, 1#2⟩) 0xe30e#16),
    ([0xf3#8, 0xf1#8, 0x34#8, 0x82#8, 0x04#8], .popMem (.regD16 ⟨.unbanked, 0#2⟩ 0x8234#16)),
    ([0xf3#8, 0x03#8, 0xf0#8, 0xe0#8, 0x06#8], .popwMem (.regR8 ⟨.unbanked, 0#2⟩ ⟨⟨.cur, 0#2⟩, 0#2⟩)),
    ([0xf3#8, 0x07#8, 0x24#8, 0xea#8, 0x14#8, 0xb2#8, 0x7d#8], .ldMemAbs16 (.regR16 ⟨.bank 2#2, 1#2⟩ ⟨⟨.cur, 2#2⟩, 2#2⟩) 0x7db2#16),
    ([0xf4#8, 0xf1#8, 0x16#8, 0x11#8, 0x96#8], .ldwMemAbs16 (.preDec ⟨.unbanked, 0#2⟩ .two) 0x9611#16),
    ([0xf5#8, 0xee#8, 0x20#8], .ldaW 0#3 (.postInc ⟨.cur, 3#2⟩ .four)),
    ([0xb3#8, 0x32#8], .ldaL 2#3 (.ind 3#3)),
    ([0xf3#8, 0x13#8, 0xe7#8, 0xc8#8, 0x20#8], .ldarW 0#3 0xc8e7#16),
    ([0xf3#8, 0x13#8, 0xe9#8, 0xf5#8, 0x34#8], .ldarL 4#3 0xf5e9#16),
    ([0xf1#8, 0x34#8, 0x12#8, 0x28#8], .andcfAMem (.abs16 0x1234#16)),
    ([0xf2#8, 0x56#8, 0x34#8, 0x12#8, 0x29#8], .orcfAMem (.abs24 0x123456#24)),
    ([0xf3#8, 0xe4#8, 0x2a#8], .xorcfAMem (.reg ⟨.cur, 1#2⟩)),
    ([0xf3#8, 0xf1#8, 0x34#8, 0x82#8, 0x2b#8], .ldcfAMem (.regD16 ⟨.unbanked, 0#2⟩ 0x8234#16)),
    ([0xf3#8, 0x03#8, 0xf0#8, 0xe0#8, 0x2c#8], .stcfAMem (.regR8 ⟨.unbanked, 0#2⟩ ⟨⟨.cur, 0#2⟩, 0#2⟩)),
    ([0xf3#8, 0x07#8, 0x24#8, 0xea#8, 0x43#8], .ldMemRB (.regR16 ⟨.bank 2#2, 1#2⟩ ⟨⟨.cur, 2#2⟩, 2#2⟩) 3#3),
    ([0xf4#8, 0xf1#8, 0x57#8], .ldMemRW (.preDec ⟨.unbanked, 0#2⟩ .two) 7#3),
    ([0xf5#8, 0xee#8, 0x60#8], .ldMemRL (.postInc ⟨.cur, 3#2⟩ .four) 0#3),
    ([0xb3#8, 0x83#8], .andcfNumMem 3#3 (.ind 3#3)),
    ([0xbd#8, 0xfe#8, 0x8f#8], .orcfNumMem 7#3 (.indD8 5#3 0xfe#8)),
    ([0xf0#8, 0x34#8, 0x94#8], .xorcfNumMem 4#3 (.abs8 0x34#8)),
    ([0xf1#8, 0x34#8, 0x12#8, 0x9a#8], .ldcfNumMem 2#3 (.abs16 0x1234#16)),
    ([0xf2#8, 0x56#8, 0x34#8, 0x12#8, 0xa4#8], .stcfNumMem 4#3 (.abs24 0x123456#24)),
    ([0xf3#8, 0xe4#8, 0xac#8], .tsetNumMem 4#3 (.reg ⟨.cur, 1#2⟩)),
    ([0xf3#8, 0xf1#8, 0x34#8, 0x82#8, 0xb7#8], .resNumMem 7#3 (.regD16 ⟨.unbanked, 0#2⟩ 0x8234#16)),
    ([0xf3#8, 0x03#8, 0xf0#8, 0xe0#8, 0xbf#8], .setNumMem 7#3 (.regR8 ⟨.unbanked, 0#2⟩ ⟨⟨.cur, 0#2⟩, 0#2⟩)),
    ([0xf3#8, 0x07#8, 0x24#8, 0xea#8, 0xc1#8], .chgNumMem 1#3 (.regR16 ⟨.bank 2#2, 1#2⟩ ⟨⟨.cur, 2#2⟩, 2#2⟩)),
    ([0xf4#8, 0xf1#8, 0xc8#8], .bitNumMem 0#3 (.preDec ⟨.unbanked, 0#2⟩ .two)),
    ([0xf5#8, 0xee#8, 0xd4#8], .jpMem .ov (.postInc ⟨.cur, 3#2⟩ .four)),
    ([0xb3#8, 0xe9#8], .callMem .ge (.ind 3#3)), ([0xb0#8, 0xf9#8], .retCc .ge)] : List (List Byte × Instr)),
    decode p.1 = .ok (p.2, []) := by decide

theorem test_decode_prefix_rows : ∀ p ∈ ([
    ([0xcd#8], .prefixRegShort .byte 5#3), ([0xc7#8, 0xd0#8], .prefixRegExt .byte ⟨⟨.prev, 0#2⟩, 0#2⟩),
    ([0x80#8], .prefixMemInd (some .byte) 0#3),
    ([0x8f#8, 0xb3#8], .prefixMemIndD8 (some .byte) 7#3 0xb3#8),
    ([0xc0#8, 0xb8#8], .prefixMemAbs8 (some .byte) 0xb8#8),
    ([0xc1#8, 0xd4#8, 0x43#8], .prefixMemAbs16 (some .byte) 0x43d4#16),
    ([0xc2#8, 0xcf#8, 0xa6#8, 0x12#8], .prefixMemAbs24 (some .byte) 0x12a6cf#24),
    ([0xc3#8, 0xe8#8], .prefixMemReg (some .byte) ⟨.cur, 2#2⟩),
    ([0xc3#8, 0xe9#8, 0x73#8, 0x01#8], .prefixMemRegD16 (some .byte) ⟨.cur, 2#2⟩ 0x173#16),
    ([0xc3#8, 0x03#8, 0xe8#8, 0xea#8], .prefixMemRegR8 (some .byte) ⟨.cur, 2#2⟩ ⟨⟨.cur, 2#2⟩, 2#2⟩),
    ([0xc3#8, 0x07#8, 0xe8#8, 0xea#8], .prefixMemRegR16 (some .byte) ⟨.cur, 2#2⟩ ⟨⟨.cur, 2#2⟩, 2#2⟩),
    ([0xc4#8, 0xea#8], .prefixMemPreDec (some .byte) ⟨.cur, 2#2⟩ .four),
    ([0xc5#8, 0xea#8], .prefixMemPostInc (some .byte) ⟨.cur, 2#2⟩ .four)] : List (List Byte × Instr)),
    decode p.1 = .ok (p.2, []) := by decide

theorem test_decode_undefined_codes_1 : ∀ p ∈ ([
    ([0x01#8], .undefined01), ([0x04#8], .undefined04), ([0x51#8], .undefined50), ([0x1f#8], .dummy1F),
    ([0xc6#8], .undefinedC6), ([0xd6#8], .undefinedD6), ([0xe6#8], .undefinedE6),
    ([0xf6#8], .undefinedF6), ([0xf7#8], .undefinedF7), ([0xcb#8, 0x00#8], .undefinedReg00),
    ([0xce#8, 0x02#8], .undefinedReg02), ([0xce#8, 0x11#8], .undefinedReg11),
    ([0xcf#8, 0x15#8], .undefinedReg15), ([0xce#8, 0x17#8], .undefinedReg17),
    ([0xcf#8, 0x18#8], .undefinedReg18), ([0xce#8, 0x25#8], .undefinedReg25),
    ([0xcb#8, 0x27#8], .undefinedReg26), ([0xcf#8, 0x2d#8], .undefinedReg2D),
    ([0xc9#8, 0x35#8], .undefinedReg35), ([0xcc#8, 0x36#8], .undefinedReg36),
    ([0xce#8, 0x1b#8], .dummyReg1A), ([0xcf#8, 0x1d#8], .dummyReg1D), ([0xcc#8, 0x1e#8], .dummyReg1E),
    ([0xca#8, 0x3b#8], .dummyReg3B), ([0xcf#8, 0x3f#8], .dummyReg3F)] : List (List Byte × Instr)),
    decode p.1 = .ok (p.2, []) := by decide

theorem test_decode_undefined_codes_2 : ∀ p ∈ ([
    ([0xc3#8, 0x03#8, 0xf0#8, 0xe0#8, 0x03#8], .undefinedSrc00),
    ([0xc3#8, 0x07#8, 0x24#8, 0xea#8, 0x05#8], .undefinedSrc05),
    ([0xc4#8, 0xf1#8, 0x0d#8], .undefinedSrc08), ([0xc5#8, 0xee#8, 0x18#8], .undefinedSrc18),
    ([0x83#8, 0x1a#8], .undefinedSrc1A), ([0x8d#8, 0xfe#8, 0x1f#8], .undefinedSrc1C),
    ([0xc0#8, 0x34#8, 0x28#8], .undefinedSrc28), ([0xc1#8, 0x34#8, 0x12#8, 0x71#8], .undefinedSrc70),
    ([0xf2#8, 0x56#8, 0x34#8, 0x12#8, 0x03#8], .undefinedDst03),
    ([0xf3#8, 0xe4#8, 0x07#8], .undefinedDst07),
    ([0xf3#8, 0xf1#8, 0x34#8, 0x82#8, 0x0b#8], .undefinedDst08),
    ([0xf3#8, 0x03#8, 0xf0#8, 0xe0#8, 0x12#8], .undefinedDst10),
    ([0xf3#8, 0x07#8, 0x24#8, 0xea#8, 0x17#8], .undefinedDst17),
    ([0xf4#8, 0xf1#8, 0x19#8], .undefinedDst18), ([0xf5#8, 0xee#8, 0x2d#8], .undefinedDst2D),
    ([0xb3#8, 0x2e#8], .undefinedDst2E), ([0xbd#8, 0xfe#8, 0x38#8], .undefinedDst38),
    ([0xf0#8, 0x34#8, 0x4d#8], .undefinedDst48), ([0xf1#8, 0x34#8, 0x12#8, 0x5e#8], .undefinedDst58),
    ([0xf2#8, 0x56#8, 0x34#8, 0x12#8, 0x69#8], .undefinedDst68),
    ([0xf3#8, 0xe4#8, 0x7c#8], .undefinedDst70),
    ([0xf3#8, 0xf1#8, 0x34#8, 0x82#8, 0x01#8], .dummyDst01),
    ([0xf3#8, 0x03#8, 0xf0#8, 0xe0#8, 0x05#8], .dummyDst05),
    ([0xf3#8, 0x07#8, 0x24#8, 0xea#8, 0x15#8], .dummyDst15)] : List (List Byte × Instr)),
    decode p.1 = .ok (p.2, []) := by decide

/-- Bytes no instruction has: reserved operand bits, a wrong size, a bad pair, codes outside the maps. -/
theorem test_decode_rejects :
    decode [0x06#8, 0x08#8] = .error .undefinedInstruction
    ∧ decode [0x17#8, 0x04#8] = .error .undefinedInstruction
    ∧ decode [0xC9#8, 0xE8#8, 0x10#8] = .error .undefinedInstruction
    ∧ decode [0xCA#8, 0x40#8] = .error .undefinedInstruction
    ∧ decode [0xC5#8, 0xF3#8, 0x21#8] = .error .undefinedInstruction
    ∧ decode [0xC7#8, 0x41#8, 0x03#8, 0x00#8] = .error .undefinedRegisterCode
    ∧ decode [0xD8#8, 0x2E#8, 0x60#8] = .error .undefinedControlRegister
    ∧ decode [0x32#8, 0x01#8] = .error .truncated := by decide

/-- The rows of codes with don't-care bits, at their last code. -/
theorem test_decode_undefined_ranges :
    decode [0x57#8] = .ok (.undefined50, []) ∧ decode [0xDF#8, 0x27#8] = .ok (.undefinedReg26, [])
    ∧ decode [0x80#8, 0x77#8] = .ok (.undefinedSrc70, [])
    ∧ decode [0xF1#8, 0x00#8, 0x01#8, 0x7F#8] = .ok (.undefinedDst70, []) := by decide

/-- The table's numbers (log entry 15): ADD HL,IX; LD A,12H; LDAR's row without its operand bytes. -/
theorem test_table_word :
    decodeTableWord 16 0xDC83 = some (.addRr .word 3#3 (.short 4#3))
    ∧ decodeTableWord 16 0x2112 = some (.ldRImmB 1#3 0x12#8)
    ∧ decodeTableWord 8 0x05 = some .halt := by decide

/-- An instruction placed after reset is the first to run. -/
theorem test_fetch_word :
    oneAt (State.reset.withFetchWord 16 0xC8A9) (fun t => getB 0xE1 t == 1 && t.pc == 2#32) = true
    ∧ oneAt (State.reset.withFetchWord 8 0x05) (fun t => t.halted) = true := by decide

/-! ### Vectors of the spec, one step each -/

/-- 95_test_vectors.md A1, B1, B2, B3, B5, B8. -/
theorem test_ld_register_1 :
    one 0x7000 [0xDA, 0x8C]
      (ini |> setW 0xe8 0x4567)
      (fun t => getW 0xf0 t == 0x4567 && t.pc == 0x7002#32) = true
    ∧ one 0x7000 [0x21, 0x55]
      (ini |> setL 0xe0 0xffffffff)
      (fun t => getL 0xe0 t == 0xffffff55 && t.pc == 0x7002#32) = true
    ∧ one 0x7000 [0x47, 0x00, 0x10, 0x00, 0x00]
      ini
      (fun t => getL 0xfc t == 0x1000 && t.pc == 0x7005#32) = true
    ∧ one 0x7000 [0xE8, 0xA8]
      (ini |> setL 0xe0 0x12345678)
      (fun t => getL 0xe0 t == 0x0 && t.pc == 0x7002#32) = true
    ∧ one 0x7000 [0xD7, 0xE2, 0x99]
      (ini |> setL 0xe0 0x11112222 |> setW 0xe4 0xabcd)
      (fun t => getL 0xe0 t == 0xabcd2222 && t.pc == 0x7003#32) = true
    ∧ one 0x7000 [0xC5, 0xF0, 0x21]
      (ini |> setM 0x1000 [0x77] |> setL 0xf0 0x1000)
      (fun t => getB 0xe0 t == 0x77 && getL 0xf0 t == 0x1001 && t.pc == 0x7003#32) = true := by decide

/-- 95_test_vectors.md B9, B10, B13, B14, B15, B16. -/
theorem test_ld_register_2 :
    one 0x7000 [0xD5, 0xF1, 0x20]
      (ini |> setM 0x1000 [0x34] |> setM 0x1001 [0x12] |> setL 0xf0 0x1000)
      (fun t => getW 0xe0 t == 0x1234 && getL 0xf0 t == 0x1002 && t.pc == 0x7003#32) = true
    ∧ one 0x7000 [0xC5, 0xF2, 0x21]
      (ini |> setM 0x1000 [0x77] |> setL 0xf0 0x1000)
      (fun t => getB 0xe0 t == 0x77 && getL 0xf0 t == 0x1004 && t.pc == 0x7003#32) = true
    ∧ one 0x7000 [0xE5, 0xF2, 0x24]
      (ini |> setM 0x1000 [0x78, 0x56, 0x34, 0x12] |> setL 0xf0 0x1000)
      (fun t => getL 0xf0 t == 0x12345678 && t.pc == 0x7003#32) = true
    ∧ one 0x7000 [0x8C, 0xFF, 0x21]
      (ini |> setM 0xfff [0x99] |> setL 0xf0 0x1000)
      (fun t => getB 0xe0 t == 0x99 && t.pc == 0x7003#32) = true
    ∧ one 0x7000 [0xC3, 0x03, 0xF0, 0xE5, 0x21]
      (ini |> setM 0xffe [0x42] |> setL 0xf0 0x1000 |> setB 0xe5 0xfe)
      (fun t => getB 0xe0 t == 0x42 && t.pc == 0x7005#32) = true
    ∧ one 0x7000 [0x80, 0x21]
      (ini |> setM 0x10 [0x3c] |> setL 0xe0 0x1000010)
      (fun t => getL 0xe0 t == 0x100003c && t.pc == 0x7002#32) = true := by decide

/-- 95_test_vectors.md A2, B23, B24, B25, B26, B27. -/
theorem test_push_1 :
    one 0x7000 [0x2B]
      (ini |> setL 0xfc 0x100 |> setW 0xec 0x1234)
      (fun t => getM 1 0xfe t == 0x34 && getM 1 0xff t == 0x12 && getL 0xfc t == 0xfe && t.pc == 0x7001#32) = true
    ∧ one 0x7000 [0x18]
      (ini |> setL 0xfc 0x100 |> setF 0x81)
      (fun t => getM 1 0xff t == 0x81 && getL 0xfc t == 0xff && t.pc == 0x7001#32) = true
    ∧ one 0x7000 [0x14]
      (ini |> setL 0xfc 0x100 |> setB 0xe0 0x5a)
      (fun t => getM 1 0xff t == 0x5a && getL 0xfc t == 0xff && t.pc == 0x7001#32) = true
    ∧ one 0x7000 [0x3F]
      (ini |> setL 0xfc 0x100)
      (fun t => getM 4 0xfc t == 0x100 && getL 0xfc t == 0xfc && t.pc == 0x7001#32) = true
    ∧ one 0x7000 [0xCA, 0x04]
      (ini |> setL 0xfc 0x100 |> setB 0xe5 0x77)
      (fun t => getM 1 0xff t == 0x77 && getL 0xfc t == 0xff && t.pc == 0x7002#32) = true
    ∧ one 0x7000 [0x0B, 0x34, 0x12]
      (ini |> setL 0xfc 0x100)
      (fun t => getM 1 0xfe t == 0x34 && getM 1 0xff t == 0x12 && getL 0xfc t == 0xfe && t.pc == 0x7003#32) = true := by decide

/-- 95_test_vectors.md B28, B29, B30, B154. -/
theorem test_push_2 :
    one 0x7000 [0x09, 0x7F]
      (ini |> setL 0xfc 0x100)
      (fun t => getM 1 0xff t == 0x7f && getL 0xfc t == 0xff && t.pc == 0x7002#32) = true
    ∧ one 0x7000 [0x94, 0x04]
      (ini |> setM 0x3000 [0x34, 0x12] |> setL 0xf0 0x3000 |> setL 0xfc 0x100)
      (fun t => getM 2 0xfe t == 0x1234 && getL 0xfc t == 0xfe && t.pc == 0x7002#32) = true
    ∧ one 0x7000 [0x38]
      (ini |> setL 0xfc 0x0 |> setL 0xe0 0x11223344)
      (fun t => getM 4 0xfffffc t == 0x11223344 && getL 0xfc t == 0xfffffffc && t.pc == 0x7001#32) = true
    ∧ one 0x7000 [0x02]
      (ini |> (State.setSr · 0xf8c1#16) |> setL 0xfc 0x1000)
      (fun t => getM 1 0xffe t == 0xc1 && getM 1 0xfff t == 0xf8 && getL 0xfc t == 0xffe && t.pc == 0x7001#32) = true := by decide

/-- 95_test_vectors.md A3, B31, B32, B33, B34, B35. -/
theorem test_pop_1 :
    one 0x7000 [0x4C]
      (ini |> setM 0x100 [0x56] |> setM 0x101 [0x78] |> setL 0xfc 0x100)
      (fun t => getW 0xf0 t == 0x7856 && getL 0xfc t == 0x102 && t.pc == 0x7001#32) = true
    ∧ one 0x7000 [0x19]
      (ini |> setM 0xff [0xff] |> setL 0xfc 0xff)
      (fun t => getL 0xfc t == 0x100 && isF 0xd7 0xd7 t && t.pc == 0x7001#32) = true
    ∧ one 0x7000 [0x15]
      (ini |> setM 0xff [0x5a] |> setL 0xfc 0xff)
      (fun t => getB 0xe0 t == 0x5a && getL 0xfc t == 0x100 && t.pc == 0x7001#32) = true
    ∧ one 0x7000 [0x5F]
      (ini |> setM 0xfc [0x0, 0x20, 0x0, 0x0] |> setL 0xfc 0xfc)
      (fun t => getL 0xfc t == 0x2000 && t.pc == 0x7001#32) = true
    ∧ one 0x7000 [0x4F]
      (ini |> setM 0x100fe [0x34, 0x12] |> setL 0xfc 0x100fe)
      (fun t => getL 0xfc t == 0x11234 && t.pc == 0x7001#32) = true
    ∧ one 0x7000 [0xED, 0x05]
      (ini |> setM 0xfc [0x78, 0x56, 0x34, 0x12] |> setL 0xfc 0xfc)
      (fun t => getL 0xf4 t == 0x12345678 && getL 0xfc t == 0x100 && t.pc == 0x7002#32) = true := by decide

/-- 95_test_vectors.md B36, B155, B156, B157. -/
theorem test_pop_2 :
    one 0x7000 [0xB3, 0x06]
      (ini |> setM 0xfe [0xcd, 0xab] |> setL 0xec 0x3000 |> setL 0xfc 0xfe)
      (fun t => getM 1 0x3000 t == 0xcd && getM 1 0x3001 t == 0xab && getL 0xfc t == 0x100 && t.pc == 0x7002#32) = true
    ∧ one 0x7000 [0x03]
      (ini |> setM 0xffe [0xc1] |> setM 0xfff [0x91] |> setL 0xfc 0xffe)
      (fun t => t.sr == 0x99c1#16 && getL 0xfc t == 0x1000 && t.pc == 0x7001#32) = true
    ∧ one 0x7000 [0x03]
      (ini |> setM 0x0 [0x0, 0x0])
      (fun t => t.sr == 0x8800#16 && t.pc == 0x7001#32) = true
    ∧ one 0x7000 [0x03]
      (ini |> setM 0x0 [0xff, 0xff])
      (fun t => t.sr == 0xfbd7#16 && t.pc == 0x7001#32) = true := by decide

/-- 95_test_vectors.md A4, B37, B38. -/
theorem test_lda :
    one 0x7000 [0xBD, 0x33, 0x34]
      (ini |> setL 0xf4 0x123456)
      (fun t => getL 0xf0 t == 0x123489 && t.pc == 0x7003#32) = true
    ∧ one 0x7000 [0xF5, 0xF2, 0x30]
      (ini |> setL 0xf0 0x1000)
      (fun t => getL 0xe0 t == 0x1000 && getL 0xf0 t == 0x1004 && t.pc == 0x7003#32) = true
    ∧ one 0x7000 [0xF3, 0xF1, 0xFF, 0x7F, 0x23]
      (ini |> setL 0xf0 0x18002)
      (fun t => getW 0xec t == 0x1 && t.pc == 0x7005#32) = true := by decide

/-- 95_test_vectors.md A5, B39. -/
theorem test_ldar :
    one 0x1000 [0xF3, 0x13, 0x41, 0x13, 0x34]
      ini
      (fun t => getL 0xf0 t == 0x2345 && t.pc == 0x1005#32) = true
    ∧ one 0x1000 [0xF3, 0x13, 0xFC, 0xFF, 0x23]
      ini
      (fun t => getW 0xec t == 0x1000 && t.pc == 0x1005#32) = true := by decide

/-- 95_test_vectors.md A6, B40, B42. -/
theorem test_ex :
    one 0x7000 [0xCA, 0xB9]
      (ini |> setB 0xe0 0x12 |> setB 0xe5 0x34)
      (fun t => getB 0xe0 t == 0x34 && getB 0xe5 t == 0x12 && t.pc == 0x7002#32) = true
    ∧ one 0x7000 [0x16]
      (ini |> setF 0x1 |> setAltF 0x40)
      (fun t => t.flags.toByte == 0x40#8 && t.altFlags.toByte == 0x1#8 && t.pc == 0x7001#32) = true
    ∧ one 0x7000 [0x84, 0x31]
      (ini |> setM 0x1000 [0x34] |> setL 0xf0 0x1000 |> setB 0xe0 0x12)
      (fun t => getM 1 0x1000 t == 0x12 && getB 0xe0 t == 0x34 && t.pc == 0x7002#32) = true := by decide

/-- 95_test_vectors.md A7, B43. -/
theorem test_mirr :
    one 0x7000 [0xDB, 0x16] ini (fun t => t.pc == 0x7002#32) = true
    ∧ one 0x7000 [0xD8, 0x16]
      (ini |> setW 0xe0 0x8001)
      (fun t => getW 0xe0 t == 0x8001 && t.pc == 0x7002#32) = true := by decide

/-- 95_test_vectors.md A23, B44, B45, B46. -/
theorem test_ldi :
    one 0x7000 [0x85, 0x10]
      (ini |> setL 0xf0 0x123456 |> setL 0xf4 0x335577 |> setW 0xe4 0x700)
      (fun t => getL 0xf0 t == 0x123457 && getL 0xf4 t == 0x335578 && getW 0xe4 t == 0x6ff && t.pc == 0x7002#32) = true
    ∧ one 0x7000 [0x83, 0x10]
      (ini |> setM 0x1000 [0xaa] |> setL 0xe8 0x2000 |> setL 0xec 0x1000 |> setW 0xe4 0x1)
      (fun t => getM 1 0x2000 t == 0xaa && getL 0xe8 t == 0x2001 && getL 0xec t == 0x1001 && getW 0xe4 t == 0x0 && isF 0xd7 0x0 t && t.pc == 0x7002#32) = true
    ∧ one 0x7000 [0x83, 0x10]
      (ini |> setW 0xe4 0x0)
      (fun t => getW 0xe4 t == 0xffff && isF 0x4 0x4 t && t.pc == 0x7002#32) = true
    ∧ one 0x7000 [0x93, 0x10]
      (ini |> setM 0x1000 [0x34, 0x12] |> setL 0xe8 0x2000 |> setL 0xec 0x1000 |> setW 0xe4 0x2)
      (fun t => getM 2 0x2000 t == 0x1234 && getL 0xe8 t == 0x2002 && getL 0xec t == 0x1002 && getW 0xe4 t == 0x1 && isF 0x4 0x4 t && t.pc == 0x7002#32) = true := by decide

/-- 95_test_vectors.md A25. -/
theorem test_ldd :
    one 0x7000 [0x85, 0x12]
      (ini |> setL 0xf0 0x123456 |> setL 0xf4 0x335577 |> setW 0xe4 0x700)
      (fun t => getL 0xf0 t == 0x123455 && getL 0xf4 t == 0x335576 && getW 0xe4 t == 0x6ff && t.pc == 0x7002#32) = true := by decide

/-- 95_test_vectors.md A27, B52, B53, B56. -/
theorem test_cpi :
    one 0x7000 [0x84, 0x14]
      (ini |> setL 0xf0 0x123456 |> setW 0xe4 0x200)
      (fun t => getL 0xf0 t == 0x123457 && getW 0xe4 t == 0x1ff && t.pc == 0x7002#32) = true
    ∧ one 0x7000 [0x83, 0x14]
      (ini |> setM 0x1000 [0x33] |> setB 0xe0 0x33 |> setL 0xec 0x1000 |> setW 0xe4 0x2)
      (fun t => getL 0xec t == 0x1001 && getW 0xe4 t == 0x1 && isF 0xd7 0x46 t && t.pc == 0x7002#32) = true
    ∧ one 0x7000 [0x92, 0x14]
      (ini |> setM 0x1000 [0x1, 0x0] |> setW 0xe0 0x100 |> setL 0xe8 0x1000 |> setW 0xe4 0x1)
      (fun t => getL 0xe8 t == 0x1002 && isF 0xd7 0x12 t && t.pc == 0x7002#32) = true
    ∧ one 0x7000 [0x81, 0x14]
      (ini |> setM 0x1000 [0x0] |> setB 0xe0 0x0 |> setL 0xe4 0x1000)
      (fun t => getL 0xe4 t == 0x1000 && isF 0x44 0x44 t && t.pc == 0x7002#32) = true := by decide

/-- 95_test_vectors.md A29. -/
theorem test_cpd :
    one 0x7000 [0x84, 0x16]
      (ini |> setL 0xf0 0x123456 |> setW 0xe4 0x200)
      (fun t => getL 0xf0 t == 0x123455 && getW 0xe4 t == 0x1ff && t.pc == 0x7002#32) = true := by decide

/-- 95_test_vectors.md A31, B58, B59, B60, B61, B62. -/
theorem test_add_1 :
    one 0x7000 [0xDC, 0x83]
      (ini |> setW 0xec 0x2000 |> setW 0xf0 0x3456)
      (fun t => getW 0xec t == 0x5456 && isF 0xd7 0x0 t && t.pc == 0x7002#32) = true
    ∧ one 0x7000 [0xCA, 0x81]
      (ini |> setB 0xe0 0x7f |> setB 0xe5 0x1)
      (fun t => getB 0xe0 t == 0x80 && isF 0xd7 0x94 t && t.pc == 0x7002#32) = true
    ∧ one 0x7000 [0xCA, 0x81]
      (ini |> setB 0xe0 0xff |> setB 0xe5 0x1)
      (fun t => getB 0xe0 t == 0x0 && isF 0xd7 0x51 t && t.pc == 0x7002#32) = true
    ∧ one 0x7000 [0xE9, 0x80]
      (ini |> setL 0xe0 0xffffffff |> setL 0xe4 0x1)
      (fun t => getL 0xe0 t == 0x0 && isF 0xc7 0x41 t && t.pc == 0x7002#32) = true
    ∧ one 0x7000 [0xE9, 0x80]
      (ini |> setL 0xe0 0x7fffffff |> setL 0xe4 0x1)
      (fun t => getL 0xe0 t == 0x80000000 && isF 0xc7 0x84 t && t.pc == 0x7002#32) = true
    ∧ one 0x7000 [0xD9, 0x80]
      (ini |> setW 0xe0 0xf |> setW 0xe4 0x1)
      (fun t => getW 0xe0 t == 0x10 && isF 0xd7 0x10 t && t.pc == 0x7002#32) = true := by decide

/-- 95_test_vectors.md B63, B64, B65, B66. -/
theorem test_add_2 :
    one 0x7000 [0xDB, 0xC8, 0x00, 0x10]
      (ini |> setW 0xec 0xf000)
      (fun t => getW 0xec t == 0x0 && isF 0xd7 0x41 t && t.pc == 0x7004#32) = true
    ∧ one 0x7000 [0x83, 0x81]
      (ini |> setM 0x2000 [0x2] |> setB 0xe0 0x1 |> setL 0xec 0x2000)
      (fun t => getB 0xe0 t == 0x3 && isF 0xd7 0x0 t && t.pc == 0x7002#32) = true
    ∧ one 0x7000 [0x83, 0x89]
      (ini |> setM 0x2000 [0xff] |> setB 0xe0 0x1 |> setL 0xec 0x2000)
      (fun t => getM 1 0x2000 t == 0x0 && isF 0xd7 0x51 t && t.pc == 0x7002#32) = true
    ∧ one 0x7000 [0x93, 0x38, 0x01, 0x00]
      (ini |> setM 0x2000 [0xff, 0x7f] |> setL 0xec 0x2000)
      (fun t => getM 2 0x2000 t == 0x8000 && isF 0xd7 0x94 t && t.pc == 0x7004#32) = true := by decide

/-- 95_test_vectors.md A32, B68, B69. -/
theorem test_adc :
    one 0x7000 [0xDC, 0x93]
      (ini |> setW 0xec 0x2000 |> setW 0xf0 0x3456 |> setF 0x1)
      (fun t => getW 0xec t == 0x5457 && t.pc == 0x7002#32) = true
    ∧ one 0x7000 [0xC9, 0xC9, 0x00]
      (ini |> setB 0xe0 0xf |> setF 0x1)
      (fun t => getB 0xe0 t == 0x10 && isF 0xd7 0x10 t && t.pc == 0x7003#32) = true
    ∧ one 0x7000 [0xC9, 0xC9, 0xFF]
      (ini |> setB 0xe0 0xff |> setF 0x1)
      (fun t => getB 0xe0 t == 0xff && isF 0xd7 0x91 t && t.pc == 0x7003#32) = true := by decide

/-- 95_test_vectors.md A33, B70, B71. -/
theorem test_sub :
    one 0x7000 [0xDC, 0xA3]
      (ini |> setW 0xec 0x7654 |> setW 0xf0 0x5000)
      (fun t => getW 0xec t == 0x2654 && t.pc == 0x7002#32) = true
    ∧ one 0x7000 [0xCA, 0xA1]
      (ini |> setB 0xe0 0x0 |> setB 0xe5 0x1)
      (fun t => getB 0xe0 t == 0xff && isF 0xd7 0x93 t && t.pc == 0x7002#32) = true
    ∧ one 0x7000 [0xCA, 0xA1]
      (ini |> setB 0xe0 0x80 |> setB 0xe5 0x1)
      (fun t => getB 0xe0 t == 0x7f && isF 0xd7 0x16 t && t.pc == 0x7002#32) = true := by decide

/-- 95_test_vectors.md A34, B72, B73. -/
theorem test_sbc :
    one 0x7000 [0xDC, 0xB3]
      (ini |> setW 0xec 0x7654 |> setW 0xf0 0x5000 |> setF 0x1)
      (fun t => getW 0xec t == 0x2653 && t.pc == 0x7002#32) = true
    ∧ one 0x7000 [0xDB, 0xCB, 0xFF, 0xFF]
      (ini |> setW 0xec 0x0 |> setF 0x1)
      (fun t => getW 0xec t == 0x0 && isF 0xd7 0x53 t && t.pc == 0x7004#32) = true
    ∧ one 0x7000 [0xC9, 0xCB, 0x00]
      (ini |> setB 0xe0 0x0 |> setF 0x1)
      (fun t => getB 0xe0 t == 0xff && isF 0xd7 0x93 t && t.pc == 0x7003#32) = true := by decide

/-- 95_test_vectors.md A35, B74, B75, B76, B77. -/
theorem test_cp :
    one 0x7000 [0xDC, 0xF3]
      (ini |> setW 0xec 0x1234 |> setW 0xf0 0x1234)
      (fun t => isF 0x43 0x42 t && t.pc == 0x7002#32) = true
    ∧ one 0x7000 [0xC9, 0xDD]
      (ini |> setB 0xe0 0x5)
      (fun t => isF 0xd7 0x42 t && t.pc == 0x7002#32) = true
    ∧ one 0x7000 [0x83, 0xF9]
      (ini |> setM 0x2000 [0x1] |> setL 0xec 0x2000 |> setB 0xe0 0x2)
      (fun t => isF 0xd7 0x93 t && t.pc == 0x7002#32) = true
    ∧ one 0x7000 [0x83, 0xF1]
      (ini |> setM 0x2000 [0x1] |> setL 0xec 0x2000 |> setB 0xe0 0x2)
      (fun t => isF 0xd7 0x2 t && t.pc == 0x7002#32) = true
    ∧ one 0x7000 [0xC9, 0xCF, 0x80]
      (ini |> setB 0xe0 0x7f)
      (fun t => isF 0xd7 0x87 t && t.pc == 0x7003#32) = true := by decide

/-- 95_test_vectors.md A36, B78, B79, B80. -/
theorem test_inc :
    one 0x7000 [0xD8, 0x65]
      (ini |> setW 0xe0 0x1234)
      (fun t => getW 0xe0 t == 0x1239 && t.pc == 0x7002#32) = true
    ∧ one 0x7000 [0xC9, 0x60]
      (ini |> setB 0xe0 0xf8 |> setF 0x0)
      (fun t => getB 0xe0 t == 0x0 && isF 0xd7 0x50 t && t.pc == 0x7002#32) = true
    ∧ one 0x7000 [0xE8, 0x61]
      (ini |> setL 0xe0 0xffffffff)
      (fun t => getL 0xe0 t == 0x0 && t.pc == 0x7002#32) = true
    ∧ one 0x7000 [0x93, 0x61]
      (ini |> setM 0x2000 [0xff, 0x7f] |> setL 0xec 0x2000)
      (fun t => getM 2 0x2000 t == 0x8000 && isF 0xd7 0x94 t && t.pc == 0x7002#32) = true := by decide

/-- 95_test_vectors.md A37, B81, B82, B83. -/
theorem test_dec :
    one 0x7000 [0xDB, 0x6C]
      (ini |> setW 0xec 0x5678)
      (fun t => getW 0xec t == 0x5674 && t.pc == 0x7002#32) = true
    ∧ one 0x7000 [0xC9, 0x69]
      (ini |> setB 0xe0 0x0)
      (fun t => getB 0xe0 t == 0xff && isF 0xd7 0x92 t && t.pc == 0x7002#32) = true
    ∧ one 0x7000 [0xC9, 0x68]
      (ini |> setB 0xe0 0x10)
      (fun t => getB 0xe0 t == 0x8 && isF 0xd7 0x12 t && t.pc == 0x7002#32) = true
    ∧ one 0x7000 [0xD9, 0x69]
      (ini |> setW 0xe4 0x0)
      (fun t => getW 0xe4 t == 0xffff && t.pc == 0x7002#32) = true := by decide

/-- 95_test_vectors.md A38, B84, B85, B86. -/
theorem test_neg :
    one 0x7000 [0xDC, 0x07]
      (ini |> setW 0xf0 0x2)
      (fun t => getW 0xf0 t == 0xfffe && t.pc == 0x7002#32) = true
    ∧ one 0x7000 [0xC9, 0x07]
      (ini |> setB 0xe0 0x80)
      (fun t => getB 0xe0 t == 0x80 && isF 0xd7 0x87 t && t.pc == 0x7002#32) = true
    ∧ one 0x7000 [0xC9, 0x07]
      (ini |> setB 0xe0 0x0)
      (fun t => getB 0xe0 t == 0x0 && isF 0xd7 0x42 t && t.pc == 0x7002#32) = true
    ∧ one 0x7000 [0xC9, 0x07]
      (ini |> setB 0xe0 0x1)
      (fun t => getB 0xe0 t == 0xff && isF 0xd7 0x93 t && t.pc == 0x7002#32) = true := by decide

/-- 95_test_vectors.md A39, A40. -/
theorem test_extz :
    one 0x7000 [0xDB, 0x12]
      (ini |> setW 0xec 0x6789)
      (fun t => getW 0xec t == 0x89 && t.pc == 0x7002#32) = true
    ∧ one 0x7000 [0xEC, 0x12]
      (ini |> setL 0xf0 0x12345678)
      (fun t => getL 0xf0 t == 0x5678 && t.pc == 0x7002#32) = true := by decide

/-- 95_test_vectors.md A41, B88. -/
theorem test_exts :
    one 0x7000 [0xDB, 0x13]
      (ini |> setW 0xec 0x6789)
      (fun t => getW 0xec t == 0xff89 && t.pc == 0x7002#32) = true
    ∧ one 0x7000 [0xE8, 0x13]
      (ini |> setL 0xe0 0x12348000)
      (fun t => getL 0xe0 t == 0xffff8000 && t.pc == 0x7002#32) = true := by decide

/-- 95_test_vectors.md A43, B93, B94. -/
theorem test_paa :
    one 0x7000 [0xEE, 0x14]
      (ini |> setL 0xf8 0x234567)
      (fun t => getL 0xf8 t == 0x234568 && t.pc == 0x7002#32) = true
    ∧ one 0x7000 [0xD8, 0x14]
      (ini |> setW 0xe0 0xffff)
      (fun t => getW 0xe0 t == 0x0 && t.pc == 0x7002#32) = true
    ∧ one 0x7000 [0xD8, 0x14]
      (ini |> setW 0xe0 0x1234)
      (fun t => getW 0xe0 t == 0x1234 && t.pc == 0x7002#32) = true := by decide

/-- 95_test_vectors.md A44, B95, B96, B97. -/
theorem test_mul :
    one 0x7000 [0xDD, 0x44]
      (ini |> setW 0xf0 0x1234 |> setW 0xf4 0x89ab)
      (fun t => getL 0xf0 t == 0x9c9fcbc && t.pc == 0x7002#32) = true
    ∧ one 0x7000 [0xCA, 0x41]
      (ini |> setB 0xe0 0xff |> setB 0xe5 0xff |> setB 0xe1 0x55)
      (fun t => getW 0xe0 t == 0xfe01 && t.pc == 0x7002#32) = true
    ∧ one 0x7000 [0xC9, 0x08, 0x10]
      (ini |> setB 0xe0 0x10)
      (fun t => getW 0xe0 t == 0x100 && t.pc == 0x7003#32) = true
    ∧ one 0x7000 [0x84, 0x47]
      (ini |> setM 0x3000 [0x4] |> setB 0xec 0x3 |> setL 0xf0 0x3000)
      (fun t => getW 0xec t == 0xc && t.pc == 0x7002#32) = true := by decide

/-- 95_test_vectors.md A45, B100, B101, B102. -/
theorem test_muls :
    one 0x7000 [0xDD, 0x4C]
      (ini |> setW 0xf0 0x1234 |> setW 0xf4 0x89ab)
      (fun t => getL 0xf0 t == 0xf795fcbc && t.pc == 0x7002#32) = true
    ∧ one 0x7000 [0xCA, 0x49]
      (ini |> setB 0xe0 0xff |> setB 0xe5 0xff)
      (fun t => getW 0xe0 t == 0x1 && t.pc == 0x7002#32) = true
    ∧ one 0x7000 [0xCA, 0x49]
      (ini |> setB 0xe0 0x80 |> setB 0xe5 0x80)
      (fun t => getW 0xe0 t == 0x4000 && t.pc == 0x7002#32) = true
    ∧ one 0x7000 [0xCA, 0x49]
      (ini |> setB 0xe0 0x80 |> setB 0xe5 0x7f)
      (fun t => getW 0xe0 t == 0xc080 && t.pc == 0x7002#32) = true := by decide

/-- 95_test_vectors.md A46, B103, B104, B105, B106. -/
theorem test_div :
    one 0x7000 [0xDD, 0x54]
      (ini |> setL 0xf0 0x12345678 |> setW 0xf4 0x89ab)
      (fun t => getL 0xf0 t == 0xfda21da && t.pc == 0x7002#32) = true
    ∧ one 0x7000 [0xCA, 0x51]
      (ini |> setW 0xe0 0x64 |> setB 0xe5 0x7)
      (fun t => getW 0xe0 t == 0x20e && isF 0x4 0x0 t && t.pc == 0x7002#32) = true
    ∧ one 0x7000 [0xCA, 0x51]
      (ini |> setW 0xe0 0x64 |> setB 0xe5 0x0)
      (fun t => isF 0x4 0x4 t && t.pc == 0x7002#32) = true
    ∧ one 0x7000 [0xCA, 0x51]
      (ini |> setW 0xe0 0x200 |> setB 0xe5 0x1)
      (fun t => isF 0x4 0x4 t && t.pc == 0x7002#32) = true
    ∧ one 0x7000 [0xCA, 0x51]
      (ini |> setW 0xe0 0xff |> setB 0xe5 0x1)
      (fun t => getW 0xe0 t == 0xff && isF 0x4 0x0 t && t.pc == 0x7002#32) = true := by decide

/-- 95_test_vectors.md A47, B107, B108, B109, B110, B111. -/
theorem test_divs :
    one 0x7000 [0xDD, 0x5C]
      (ini |> setL 0xf0 0x12345678 |> setW 0xf4 0x89ab)
      (fun t => getL 0xf0 t == 0x16eed89e && t.pc == 0x7002#32) = true
    ∧ one 0x7000 [0xCA, 0x59]
      (ini |> setW 0xe0 0xff9c |> setB 0xe5 0x7)
      (fun t => getW 0xe0 t == 0xfef2 && isF 0x4 0x0 t && t.pc == 0x7002#32) = true
    ∧ one 0x7000 [0xCA, 0x59]
      (ini |> setW 0xe0 0x64 |> setB 0xe5 0xf9)
      (fun t => getW 0xe0 t == 0x2f2 && isF 0x4 0x0 t && t.pc == 0x7002#32) = true
    ∧ one 0x7000 [0xCA, 0x59]
      (ini |> setW 0xe0 0xff80 |> setB 0xe5 0x1)
      (fun t => getW 0xe0 t == 0x80 && isF 0x4 0x0 t && t.pc == 0x7002#32) = true
    ∧ one 0x7000 [0xCA, 0x59]
      (ini |> setW 0xe0 0x8000 |> setB 0xe5 0xff)
      (fun t => isF 0x4 0x4 t && t.pc == 0x7002#32) = true
    ∧ one 0x7000 [0xCA, 0x59]
      (ini |> setW 0xe0 0x80 |> setB 0xe5 0x1)
      (fun t => isF 0x4 0x4 t && t.pc == 0x7002#32) = true := by decide

/-- 95_test_vectors.md A48, B112. -/
theorem test_mula :
    one 0x7000 [0xDC, 0x19]
      (ini |> setM 0x100 [0x34, 0x12] |> setM 0x200 [0xab, 0x89] |> setL 0xf0 0x50000000 |> setL 0xe8 0x100 |> setL 0xec 0x200)
      (fun t => getL 0xf0 t == 0x4795fcbc && getL 0xec t == 0x1fe && t.pc == 0x7002#32) = true
    ∧ one 0x7000 [0xDC, 0x19]
      (ini |> setM 0x100 [0x1, 0x0] |> setM 0x200 [0x1, 0x0] |> setL 0xf0 0x7fffffff |> setL 0xe8 0x100 |> setL 0xec 0x200)
      (fun t => getL 0xf0 t == 0x80000000 && getL 0xec t == 0x1fe && isF 0xc4 0x84 t && t.pc == 0x7002#32) = true := by decide

/-- 95_test_vectors.md A49, B113, B115. -/
theorem test_minc1 :
    one 0x7000 [0xDC, 0x38, 0x07, 0x00]
      (ini |> setW 0xf0 0x1206)
      (fun t => getW 0xf0 t == 0x1207 && t.pc == 0x7004#32) = true
    ∧ one 0x7000 [0xDC, 0x38, 0x05, 0x00] (ini |> setW 0xf0 0x1200) (fun t => t.pc == 0x7004#32) = true
    ∧ one 0x7000 [0xDC, 0x38, 0xFF, 0x7F]
      (ini |> setW 0xf0 0xffff)
      (fun t => getW 0xf0 t == 0x8000 && t.pc == 0x7004#32) = true := by decide

/-- 95_test_vectors.md A50, B114. -/
theorem test_minc2 :
    one 0x7000 [0xDC, 0x39, 0x06, 0x00]
      (ini |> setW 0xf0 0x1234)
      (fun t => getW 0xf0 t == 0x1236 && t.pc == 0x7004#32) = true
    ∧ one 0x7000 [0xDC, 0x39, 0x06, 0x00]
      (ini |> setW 0xf0 0x1237)
      (fun t => getW 0xf0 t == 0x1239 && t.pc == 0x7004#32) = true := by decide

/-- 95_test_vectors.md A51. -/
theorem test_minc4 :
    one 0x7000 [0xDC, 0x3A, 0x3C, 0x00]
      (ini |> setW 0xf0 0x1278)
      (fun t => getW 0xf0 t == 0x127c && t.pc == 0x7004#32) = true := by decide

/-- 95_test_vectors.md A52, B116. -/
theorem test_mdec1 :
    one 0x7000 [0xDC, 0x3C, 0x07, 0x00]
      (ini |> setW 0xf0 0x1231)
      (fun t => getW 0xf0 t == 0x1230 && t.pc == 0x7004#32) = true
    ∧ one 0x7000 [0xDC, 0x3C, 0x01, 0x00]
      (ini |> setW 0xf0 0x1000)
      (fun t => getW 0xf0 t == 0x1001 && t.pc == 0x7004#32) = true := by decide

/-- 95_test_vectors.md A53. -/
theorem test_mdec2 :
    one 0x7000 [0xDC, 0x3D, 0x06, 0x00]
      (ini |> setW 0xf0 0x123a)
      (fun t => getW 0xf0 t == 0x1238 && t.pc == 0x7004#32) = true := by decide

/-- 95_test_vectors.md A54. -/
theorem test_mdec4 :
    one 0x7000 [0xDC, 0x3E, 0x7C, 0x00]
      (ini |> setW 0xf0 0x1284)
      (fun t => getW 0xf0 t == 0x1280 && t.pc == 0x7004#32) = true := by decide

/-- 95_test_vectors.md A55, B117, B123. -/
theorem test_and :
    one 0x7000 [0xDC, 0xC3]
      (ini |> setW 0xec 0x7350 |> setW 0xf0 0x3456)
      (fun t => getW 0xec t == 0x3050 && t.pc == 0x7002#32) = true
    ∧ one 0x7000 [0xC9, 0xCC, 0x0F]
      (ini |> setB 0xe0 0xf0)
      (fun t => getB 0xe0 t == 0x0 && isF 0xd7 0x54 t && t.pc == 0x7003#32) = true
    ∧ one 0x7000 [0x83, 0xC9]
      (ini |> setM 0x2000 [0x3c] |> setL 0xec 0x2000 |> setB 0xe0 0xf)
      (fun t => getM 1 0x2000 t == 0xc && isF 0xd7 0x14 t && t.pc == 0x7002#32) = true := by decide

/-- 95_test_vectors.md A56, B118, B119. -/
theorem test_or :
    one 0x7000 [0xDC, 0xE3]
      (ini |> setW 0xec 0x7350 |> setW 0xf0 0x3456)
      (fun t => getW 0xec t == 0x7756 && t.pc == 0x7002#32) = true
    ∧ one 0x7000 [0xD9, 0xE0]
      (ini |> setW 0xe0 0x100 |> setW 0xe4 0x1)
      (fun t => getW 0xe0 t == 0x101 && isF 0xd7 0x4 t && t.pc == 0x7002#32) = true
    ∧ one 0x7000 [0xC9, 0xCE, 0x80]
      (ini |> setB 0xe0 0x0)
      (fun t => getB 0xe0 t == 0x80 && isF 0xd7 0x80 t && t.pc == 0x7003#32) = true := by decide

/-- 95_test_vectors.md A57, B120, B122. -/
theorem test_xor :
    one 0x7000 [0xDC, 0xD3]
      (ini |> setW 0xec 0x7350 |> setW 0xf0 0x3456)
      (fun t => getW 0xec t == 0x4706 && t.pc == 0x7002#32) = true
    ∧ one 0x7000 [0xC9, 0xD1]
      (ini |> setB 0xe0 0x5a)
      (fun t => getB 0xe0 t == 0x0 && isF 0xd7 0x44 t && t.pc == 0x7002#32) = true
    ∧ one 0x7000 [0x93, 0x3D, 0xFF, 0xFF]
      (ini |> setM 0x2000 [0xff, 0x0] |> setL 0xec 0x2000)
      (fun t => getM 2 0x2000 t == 0xff00 && isF 0xd7 0x84 t && t.pc == 0x7004#32) = true := by decide

/-- 95_test_vectors.md A58, B124. -/
theorem test_cpl :
    one 0x7000 [0xD8, 0x06]
      (ini |> setW 0xe0 0x1234)
      (fun t => getW 0xe0 t == 0xedcb && t.pc == 0x7002#32) = true
    ∧ one 0x7000 [0xC9, 0x06]
      (ini |> setB 0xe0 0x55)
      (fun t => getB 0xe0 t == 0xaa && isF 0xd7 0x12 t && t.pc == 0x7002#32) = true := by decide

/-- 95_test_vectors.md A59, B125, B126, B127, B128, B129. -/
theorem test_ldcf :
    one 0x7000 [0xF1, 0x00, 0x01, 0x9E]
      (ini |> setM 0x100 [0x40])
      (fun t => isF 0x1 0x1 t && t.pc == 0x7004#32) = true
    ∧ one 0x7000 [0xC9, 0x23, 0x09] ini (fun t => t.pc == 0x7003#32) = true
    ∧ one 0x7000 [0xD8, 0x23, 0x09]
      (ini |> setW 0xe0 0x200)
      (fun t => isF 0x1 0x1 t && t.pc == 0x7003#32) = true
    ∧ one 0x7000 [0xCA, 0x2B]
      (ini |> setB 0xe0 0xf7 |> setB 0xe5 0x80)
      (fun t => isF 0x1 0x1 t && t.pc == 0x7002#32) = true
    ∧ one 0x7000 [0xB3, 0x2B]
      (ini |> setM 0x2000 [0x4] |> setB 0xe0 0x2 |> setL 0xec 0x2000)
      (fun t => isF 0x1 0x1 t && t.pc == 0x7002#32) = true
    ∧ one 0x7000 [0xB3, 0x2B] (ini |> setB 0xe0 0xa) (fun t => t.pc == 0x7002#32) = true := by decide

/-- 95_test_vectors.md A60, B130, B131. -/
theorem test_stcf :
    one 0x7000 [0xF1, 0x00, 0x01, 0xA5]
      (ini |> setM 0x100 [0x0] |> setF 0x1)
      (fun t => getM 1 0x100 t == 0x20 && t.pc == 0x7004#32) = true
    ∧ one 0x7000 [0xC9, 0x24, 0x09]
      (ini |> setB 0xe0 0x0 |> setF 0x1)
      (fun t => getB 0xe0 t == 0x0 && t.pc == 0x7003#32) = true
    ∧ one 0x7000 [0xD8, 0x24, 0x0F]
      (ini |> setW 0xe0 0x0 |> setF 0x1)
      (fun t => getW 0xe0 t == 0x8000 && t.pc == 0x7003#32) = true := by decide

/-- 95_test_vectors.md A61, B133. -/
theorem test_andcf :
    one 0x7000 [0xF1, 0x00, 0x01, 0x86]
      (ini |> setM 0x100 [0x40] |> setF 0x1)
      (fun t => isF 0x1 0x1 t && t.pc == 0x7004#32) = true
    ∧ one 0x7000 [0xC9, 0x20, 0x00]
      (ini |> setB 0xe0 0x1 |> setF 0x0)
      (fun t => isF 0x1 0x0 t && t.pc == 0x7003#32) = true := by decide

/-- 95_test_vectors.md A62. -/
theorem test_orcf :
    one 0x7000 [0xF1, 0x00, 0x01, 0x8E]
      (ini |> setM 0x100 [0x40] |> setF 0x0)
      (fun t => isF 0x1 0x1 t && t.pc == 0x7004#32) = true := by decide

/-- 95_test_vectors.md A63, B134. -/
theorem test_xorcf :
    one 0x7000 [0xF1, 0x00, 0x01, 0x96]
      (ini |> setM 0x100 [0x40] |> setF 0x1)
      (fun t => isF 0x1 0x0 t && t.pc == 0x7004#32) = true
    ∧ one 0x7000 [0xC9, 0x22, 0x00]
      (ini |> setB 0xe0 0x1 |> setF 0x0)
      (fun t => isF 0x1 0x1 t && t.pc == 0x7003#32) = true := by decide

/-- 95_test_vectors.md A65, B138. -/
theorem test_zcf :
    one 0x7000 [0x13] (ini |> setF 0x0) (fun t => isF 0x1 0x1 t && t.pc == 0x7001#32) = true
    ∧ one 0x7000 [0x13] (ini |> setF 0x40) (fun t => isF 0x43 0x40 t && t.pc == 0x7001#32) = true := by decide

/-- 95_test_vectors.md A66, B139, B140. -/
theorem test_bit :
    one 0x7000 [0xF1, 0x00, 0x01, 0xCD]
      (ini |> setM 0x100 [0x20])
      (fun t => isF 0x40 0x0 t && t.pc == 0x7004#32) = true
    ∧ one 0x7000 [0xC9, 0x33, 0x07]
      (ini |> setB 0xe0 0x80 |> setF 0x1)
      (fun t => isF 0x53 0x11 t && t.pc == 0x7003#32) = true
    ∧ one 0x7000 [0xC9, 0x33, 0x09] ini (fun t => t.pc == 0x7003#32) = true := by decide

/-- 95_test_vectors.md A67, B142. -/
theorem test_res :
    one 0x7000 [0xF1, 0x00, 0x01, 0xB5]
      (ini |> setM 0x100 [0x27])
      (fun t => getM 1 0x100 t == 0x7 && t.pc == 0x7004#32) = true
    ∧ one 0x7000 [0xB3, 0xB0]
      (ini |> setM 0x2000 [0x0] |> setL 0xec 0x2000)
      (fun t => t.pc == 0x7002#32) = true := by decide

/-- 95_test_vectors.md A68, B141. -/
theorem test_set :
    one 0x7000 [0xF1, 0x00, 0x01, 0xBD]
      (ini |> setM 0x100 [0x0])
      (fun t => getM 1 0x100 t == 0x20 && t.pc == 0x7004#32) = true
    ∧ one 0x7000 [0xD8, 0x31, 0x0F]
      (ini |> setW 0xe0 0x0)
      (fun t => getW 0xe0 t == 0x8000 && t.pc == 0x7003#32) = true := by decide

/-- 95_test_vectors.md A69, B143. -/
theorem test_chg :
    one 0x7000 [0xF1, 0x00, 0x01, 0xC5]
      (ini |> setM 0x100 [0x27])
      (fun t => getM 1 0x100 t == 0x7 && t.pc == 0x7004#32) = true
    ∧ one 0x7000 [0xC9, 0x32, 0x00]
      (ini |> setB 0xe0 0x1)
      (fun t => getB 0xe0 t == 0x0 && t.pc == 0x7003#32) = true := by decide

/-- 95_test_vectors.md A70, B144, B145. -/
theorem test_tset :
    one 0x7000 [0xF1, 0x00, 0x01, 0xAB]
      (ini |> setM 0x100 [0x20])
      (fun t => getM 1 0x100 t == 0x28 && isF 0x40 0x40 t && t.pc == 0x7004#32) = true
    ∧ one 0x7000 [0xB3, 0xA8]
      (ini |> setM 0x2000 [0x1] |> setL 0xec 0x2000)
      (fun t => getM 1 0x2000 t == 0x1 && isF 0x53 0x10 t && t.pc == 0x7002#32) = true
    ∧ one 0x7000 [0xC9, 0x34, 0x07]
      (ini |> setB 0xe0 0x0)
      (fun t => getB 0xe0 t == 0x80 && isF 0x40 0x40 t && t.pc == 0x7003#32) = true := by decide

/-- 95_test_vectors.md A71, B147. -/
theorem test_bs1b :
    one 0x7000 [0xDC, 0x0F]
      (ini |> setW 0xf0 0x1200)
      (fun t => getB 0xe0 t == 0xc && t.pc == 0x7002#32) = true
    ∧ one 0x7000 [0xD8, 0x0F]
      (ini |> setW 0xe0 0x8000)
      (fun t => getB 0xe0 t == 0xf && getW 0xe0 t == 0x800f && isF 0x4 0x0 t && t.pc == 0x7002#32) = true := by decide

/-- 95_test_vectors.md A72, B146. -/
theorem test_bs1f :
    one 0x7000 [0xDC, 0x0E]
      (ini |> setW 0xf0 0x1200)
      (fun t => getB 0xe0 t == 0x9 && t.pc == 0x7002#32) = true
    ∧ one 0x7000 [0xD8, 0x0E]
      (ini |> setW 0xe0 0x0)
      (fun t => isF 0x4 0x4 t && t.pc == 0x7002#32) = true := by decide

/-- 95_test_vectors.md A73, B158, B159. -/
theorem test_swi :
    one 0x128400 [0xFD]
      (ini |> setM 0xffff14 [0x78, 0x56, 0x34, 0x0] |> (State.setSr · 0x8800#16) |> setL 0xfc 0x1000)
      (fun t => getM 2 0xffa t == 0x8800 && getM 4 0xffc t == 0x128401 && t.pc == 0x345678#32 && getL 0xfc t == 0xffa) = true
    ∧ one 0x2000 [0xF8]
      (ini |> setM 0xffff00 [0x34, 0x12, 0x0, 0x0] |> (State.setSr · 0xf800#16) |> setL 0xfc 0x1000)
      (fun t => getM 2 0xffa t == 0xf800 && getM 4 0xffc t == 0x2001 && t.pc == 0x1234#32 && getL 0xfc t == 0xffa) = true
    ∧ one 0x7000 [0xFF]
      (ini |> setM 0xffff1c [0xef, 0xcd, 0xab, 0x0])
      (fun t => t.pc == 0xabcdef#32) = true := by decide

/-- 95_test_vectors.md A74, B161, B162, B163, B164. -/
theorem test_ldc :
    one 0x7000 [0xD8, 0x2E, 0x40]
      (ini |> setW 0xe0 0x1234)
      (fun t => t.readControl (.dmac 0) == 0x1234#16 && t.pc == 0x7003#32) = true
    ∧ one 0x7000 [0xE8, 0x2F, 0x00]
      (ini |> (State.writeControl · (.dmas 0) 0x123456#32))
      (fun t => getL 0xe0 t == 0x123456 && t.pc == 0x7003#32) = true
    ∧ one 0x7000 [0xC9, 0x2E, 0x4E]
      (ini |> setB 0xe0 0x5)
      (fun t => t.readControl (.dmam 3) == 0x5#8 && t.pc == 0x7003#32) = true
    ∧ one 0x7000 [0xDB, 0x2E, 0x7C]
      (ini |> setW 0xec 0x0)
      (fun t => t.intnest == 0x0#16 && t.pc == 0x7003#32) = true
    ∧ one 0x7000 [0xDB, 0x2F, 0x7C]
      (ini |> (State.writeControl · .intnest 0x2#16))
      (fun t => getW 0xec t == 0x2 && t.pc == 0x7003#32) = true := by decide

/-- 95_test_vectors.md A75, B167. -/
theorem test_link :
    one 0x7000 [0xEE, 0x0C, 0xC0, 0xFF]
      (ini |> setL 0xfc 0x280 |> setL 0xf8 0x290)
      (fun t => getM 4 0x27c t == 0x290 && getL 0xf8 t == 0x27c && getL 0xfc t == 0x23c && t.pc == 0x7004#32) = true
    ∧ one 0x7000 [0xEC, 0x0C, 0x08, 0x00]
      (ini |> setL 0xfc 0x1000 |> setL 0xf0 0x11111111)
      (fun t => getM 4 0xffc t == 0x11111111 && getL 0xf0 t == 0xffc && getL 0xfc t == 0x1004 && t.pc == 0x7004#32) = true := by decide

/-- 95_test_vectors.md A76. -/
theorem test_unlk :
    one 0x7000 [0xEE, 0x0D]
      (ini |> setM 0x27c [0x90, 0x2, 0x0, 0x0] |> setL 0xf8 0x27c)
      (fun t => getL 0xfc t == 0x280 && getL 0xf8 t == 0x290 && t.pc == 0x7002#32) = true := by decide

/-- 95_test_vectors.md A77, B170. -/
theorem test_incf :
    one 0x7000 [0x0C] (ini |> setRfp 2) (fun t => t.rfp == 3#2 && t.pc == 0x7001#32) = true
    ∧ one 0x7000 [0x0C] (ini |> setRfp 3) (fun t => t.rfp == 0#2 && t.pc == 0x7001#32) = true := by decide

/-- 95_test_vectors.md A78, B171. -/
theorem test_decf :
    one 0x7000 [0x0D] (ini |> setRfp 2) (fun t => t.rfp == 1#2 && t.pc == 0x7001#32) = true
    ∧ one 0x7000 [0x0D] (ini |> setRfp 0) (fun t => t.rfp == 3#2 && t.pc == 0x7001#32) = true := by decide

/-- 95_test_vectors.md A79, B172, B173, B174, B175. -/
theorem test_scc :
    one 0x7000 [0xDB, 0x74] (ini |> setF 0x4) (fun t => getW 0xec t == 0x1 && t.pc == 0x7002#32) = true
    ∧ one 0x7000 [0xC9, 0x70]
      (ini |> setB 0xe0 0xff)
      (fun t => getB 0xe0 t == 0x0 && t.pc == 0x7002#32) = true
    ∧ one 0x7000 [0xD8, 0x78]
      (ini |> setW 0xe0 0xffff)
      (fun t => getW 0xe0 t == 0x1 && t.pc == 0x7002#32) = true
    ∧ one 0x7000 [0xC9, 0x71]
      (ini |> setF 0x80)
      (fun t => getB 0xe0 t == 0x1 && t.pc == 0x7002#32) = true
    ∧ one 0x7000 [0xC9, 0x73]
      (ini |> setF 0x0)
      (fun t => getB 0xe0 t == 0x0 && t.pc == 0x7002#32) = true := by decide

/-- 95_test_vectors.md A82, B176, B185, B186. -/
theorem test_rlc :
    one 0x7000 [0xDB, 0xE8, 0x04]
      (ini |> setW 0xec 0x1230)
      (fun t => getW 0xec t == 0x2301 && isF 0x1 0x1 t && t.pc == 0x7003#32) = true
    ∧ one 0x7000 [0xC9, 0xE8, 0x00]
      (ini |> setB 0xe0 0x81)
      (fun t => getB 0xe0 t == 0x81 && isF 0xd7 0x85 t && t.pc == 0x7003#32) = true
    ∧ one 0x7000 [0xC9, 0xF8]
      (ini |> setB 0xe0 0x2)
      (fun t => getB 0xe0 t == 0x8 && isF 0xd7 0x0 t && t.pc == 0x7002#32) = true
    ∧ one 0x7000 [0xE8, 0xE8, 0x00]
      (ini |> setL 0xe0 0x80000001)
      (fun t => getL 0xe0 t == 0x18000 && isF 0xd3 0x0 t && t.pc == 0x7003#32) = true := by decide

/-- 95_test_vectors.md A83. -/
theorem test_rrc :
    one 0x7000 [0xDB, 0xE9, 0x04]
      (ini |> setW 0xec 0x1230)
      (fun t => getW 0xec t == 0x123 && isF 0x1 0x0 t && t.pc == 0x7003#32) = true := by decide

/-- 95_test_vectors.md A84, B182, B183. -/
theorem test_rl :
    one 0x7000 [0xDB, 0xEA, 0x04]
      (ini |> setW 0xec 0x6230 |> setF 0x1)
      (fun t => getW 0xec t == 0x230b && isF 0x1 0x0 t && t.pc == 0x7003#32) = true
    ∧ one 0x7000 [0xCA, 0xFA]
      (ini |> setB 0xe0 0x1 |> setB 0xe5 0x80 |> setF 0x0)
      (fun t => getB 0xe5 t == 0x0 && isF 0xd7 0x45 t && t.pc == 0x7002#32) = true
    ∧ one 0x7000 [0xC9, 0xEA, 0x09]
      (ini |> setB 0xe0 0xa5 |> setF 0x1)
      (fun t => getB 0xe0 t == 0xa5 && isF 0xd7 0x85 t && t.pc == 0x7003#32) = true := by decide

/-- 95_test_vectors.md A85, B184. -/
theorem test_rr :
    one 0x7000 [0xDB, 0xEB, 0x04]
      (ini |> setW 0xec 0x6230 |> setF 0x1)
      (fun t => getW 0xec t == 0x1623 && isF 0x1 0x0 t && t.pc == 0x7003#32) = true
    ∧ one 0x7000 [0xE8, 0xEB, 0x01]
      (ini |> setL 0xe0 0x1 |> setF 0x0)
      (fun t => getL 0xe0 t == 0x0 && isF 0xd3 0x41 t && t.pc == 0x7003#32) = true := by decide

/-- 95_test_vectors.md A86, B177, B178. -/
theorem test_sla :
    one 0x7000 [0xDB, 0xEC, 0x04]
      (ini |> setW 0xec 0x1234)
      (fun t => getW 0xec t == 0x2340 && isF 0x1 0x1 t && t.pc == 0x7003#32) = true
    ∧ one 0x7000 [0xC9, 0xEC, 0x09]
      (ini |> setB 0xe0 0xff)
      (fun t => getB 0xe0 t == 0x0 && isF 0xd7 0x44 t && t.pc == 0x7003#32) = true
    ∧ one 0x7000 [0xC9, 0xEC, 0x08]
      (ini |> setB 0xe0 0xff)
      (fun t => getB 0xe0 t == 0x0 && isF 0xd7 0x45 t && t.pc == 0x7003#32) = true := by decide

/-- 95_test_vectors.md A87, B179, B180. -/
theorem test_sra :
    one 0x7000 [0xDB, 0xED, 0x04]
      (ini |> setW 0xec 0x8230)
      (fun t => getW 0xec t == 0xf823 && isF 0x1 0x0 t && t.pc == 0x7003#32) = true
    ∧ one 0x7000 [0xC9, 0xED, 0x01]
      (ini |> setB 0xe0 0x81)
      (fun t => getB 0xe0 t == 0xc0 && isF 0xd7 0x85 t && t.pc == 0x7003#32) = true
    ∧ one 0x7000 [0xD8, 0xED, 0x00]
      (ini |> setW 0xe0 0x8000)
      (fun t => getW 0xe0 t == 0xffff && isF 0xd7 0x85 t && t.pc == 0x7003#32) = true := by decide

/-- 95_test_vectors.md A88. -/
theorem test_sll :
    one 0x7000 [0xDB, 0xEE, 0x04]
      (ini |> setW 0xec 0x1234)
      (fun t => getW 0xec t == 0x2340 && isF 0x1 0x1 t && t.pc == 0x7003#32) = true := by decide

/-- 95_test_vectors.md A89, B181. -/
theorem test_srl :
    one 0x7000 [0xDB, 0xEF, 0x04]
      (ini |> setW 0xec 0x1238)
      (fun t => getW 0xec t == 0x123 && isF 0x1 0x1 t && t.pc == 0x7003#32) = true
    ∧ one 0x7000 [0x93, 0x7F]
      (ini |> setM 0x2000 [0x1, 0x0] |> setL 0xec 0x2000)
      (fun t => getM 2 0x2000 t == 0x0 && isF 0xd7 0x45 t && t.pc == 0x7002#32) = true := by decide

/-- 95_test_vectors.md A90, B189. -/
theorem test_rld :
    one 0x7000 [0xC1, 0x00, 0x01, 0x06]
      (ini |> setM 0x100 [0x34] |> setB 0xe0 0x12)
      (fun t => getM 1 0x100 t == 0x42 && getB 0xe0 t == 0x13 && t.pc == 0x7004#32) = true
    ∧ one 0x7000 [0x83, 0x06]
      (ini |> setM 0x2000 [0xf] |> setB 0xe0 0xf0 |> setL 0xec 0x2000 |> setF 0x1)
      (fun t => getM 1 0x2000 t == 0xf0 && getB 0xe0 t == 0xf0 && isF 0xd7 0x85 t && t.pc == 0x7002#32) = true := by decide

/-- 95_test_vectors.md A91, B190. -/
theorem test_rrd :
    one 0x7000 [0xC1, 0x00, 0x01, 0x07]
      (ini |> setM 0x100 [0x34] |> setB 0xe0 0x12)
      (fun t => getM 1 0x100 t == 0x23 && getB 0xe0 t == 0x14 && t.pc == 0x7004#32) = true
    ∧ one 0x7000 [0x83, 0x07]
      (ini |> setM 0x2000 [0x0] |> setB 0xe0 0x0 |> setL 0xec 0x2000)
      (fun t => getM 1 0x2000 t == 0x0 && getB 0xe0 t == 0x0 && isF 0xd7 0x44 t && t.pc == 0x7002#32) = true := by decide

/-- 95_test_vectors.md A92, B191, B192, B193, B194. -/
theorem test_jp :
    one 0x7000 [0x1A, 0x00, 0x20] ini (fun t => t.pc == 0x2000#32) = true
    ∧ one 0x7000 [0x1B, 0x56, 0x34, 0x12] ini (fun t => t.pc == 0x123456#32) = true
    ∧ one 0x7000 [0xB4, 0xD8] (ini |> setL 0xf0 0x123456) (fun t => t.pc == 0x123456#32) = true
    ∧ one 0x1000 [0xF5, 0xF0, 0xD6]
      (ini |> setL 0xf0 0x2000 |> setF 0x0)
      (fun t => t.pc == 0x1003#32 && getL 0xf0 t == 0x2001) = true
    ∧ one 0x1000 [0xB4, 0xD0] ini (fun t => t.pc == 0x1002#32) = true := by decide

/-- 95_test_vectors.md A93, B195, B196, B197, B198. -/
theorem test_jr :
    one 0x2000 [0x68, 0x76] ini (fun t => t.pc == 0x2078#32) = true
    ∧ one 0x1000 [0x66, 0xFC] (ini |> setF 0x40) (fun t => t.pc == 0xffe#32) = true
    ∧ one 0x1000 [0x66, 0xFC] (ini |> setF 0x0) (fun t => t.pc == 0x1002#32) = true
    ∧ one 0x1000 [0x68, 0xFE] ini (fun t => t.pc == 0x1000#32) = true
    ∧ one 0xfffffe [0x68, 0x10] ini (fun t => t.pc == 0x1000010#32) = true := by decide

/-- 95_test_vectors.md A94, B202, B203, B204. -/
theorem test_call :
    one 0x8000 [0x1C, 0x00, 0x90]
      (ini |> setL 0xfc 0x100)
      (fun t => getM 4 0xfc t == 0x8003 && t.pc == 0x9000#32 && getL 0xfc t == 0xfc) = true
    ∧ one 0x8000 [0x1D, 0x56, 0x34, 0x12]
      (ini |> setL 0xfc 0x100)
      (fun t => getM 4 0xfc t == 0x8004 && t.pc == 0x123456#32 && getL 0xfc t == 0xfc) = true
    ∧ one 0x8000 [0xB3, 0xEE]
      (ini |> setL 0xfc 0x100 |> setF 0x40)
      (fun t => t.pc == 0x8002#32 && getL 0xfc t == 0x100) = true
    ∧ one 0x8000 [0xBC, 0x10, 0xE8]
      (ini |> setL 0xf0 0x9000 |> setL 0xfc 0x100)
      (fun t => getM 4 0xfc t == 0x8003 && t.pc == 0x9010#32 && getL 0xfc t == 0xfc) = true := by decide

/-- 95_test_vectors.md A96, B210, B211. -/
theorem test_ret :
    one 0x7000 [0x0E]
      (ini |> setM 0xfc [0x0, 0x90, 0x0, 0x0] |> setL 0xfc 0xfc)
      (fun t => t.pc == 0x9000#32 && getL 0xfc t == 0x100) = true
    ∧ one 0x7000 [0xB0, 0xF6]
      (ini |> setM 0xfc [0x0, 0x90, 0x0, 0x0] |> setL 0xfc 0xfc |> setF 0x40)
      (fun t => t.pc == 0x9000#32 && getL 0xfc t == 0x100) = true
    ∧ one 0x1000 [0xB0, 0xF6]
      (ini |> setL 0xfc 0xfc |> setF 0x0)
      (fun t => t.pc == 0x1002#32 && getL 0xfc t == 0xfc) = true := by decide

/-- 95_test_vectors.md A97, B213. -/
theorem test_retd :
    one 0x7000 [0x0F, 0x08, 0x00]
      (ini |> setM 0xfc [0x0, 0x90, 0x0, 0x0] |> setL 0xfc 0xfc)
      (fun t => t.pc == 0x9000#32 && getL 0xfc t == 0x108) = true
    ∧ one 0x7000 [0x0F, 0xFE, 0xFF]
      (ini |> setM 0xfc [0x0, 0x90, 0x0, 0x0] |> setL 0xfc 0xfc)
      (fun t => t.pc == 0x9000#32 && getL 0xfc t == 0xfe) = true := by decide

/-- 95_test_vectors.md B12, B17, B18, B19, B20, B21. -/
theorem test_ld_memory_1 :
    one 0x7000 [0xF4, 0xF0, 0x41]
      (ini |> setL 0xf0 0x1000 |> setB 0xe0 0x5a)
      (fun t => getM 1 0xfff t == 0x5a && getL 0xf0 t == 0xfff && t.pc == 0x7003#32) = true
    ∧ one 0x7000 [0x0A, 0x80, 0x34, 0x12]
      ini
      (fun t => getM 1 0x80 t == 0x34 && getM 1 0x81 t == 0x12 && t.pc == 0x7004#32) = true
    ∧ one 0x7000 [0xB3, 0x00, 0x5A]
      (ini |> setL 0xec 0x2000)
      (fun t => getM 1 0x2000 t == 0x5a && t.pc == 0x7003#32) = true
    ∧ one 0x7000 [0x94, 0x19, 0x00, 0x10]
      (ini |> setM 0x3000 [0xef, 0xbe] |> setL 0xf0 0x3000)
      (fun t => getM 1 0x1000 t == 0xef && getM 1 0x1001 t == 0xbe && t.pc == 0x7004#32) = true
    ∧ one 0x7000 [0xB2, 0x14, 0x00, 0x20]
      (ini |> setM 0x2000 [0x7f] |> setL 0xe8 0x3000)
      (fun t => getM 1 0x3000 t == 0x7f && t.pc == 0x7004#32) = true
    ∧ one 0x7000 [0xBC, 0x04, 0x41]
      (ini |> setL 0xf0 0x1000 |> setB 0xe0 0x66)
      (fun t => getM 1 0x1004 t == 0x66 && t.pc == 0x7003#32) = true := by decide

/-- 95_test_vectors.md B22. -/
theorem test_ld_memory_2 :
    one 0x7000 [0xB0, 0x61]
      (ini |> setL 0xe0 0x2000 |> setL 0xe4 0x11223344)
      (fun t => getM 4 0x2000 t == 0x11223344 && t.pc == 0x7002#32) = true := by decide

/-- 95_test_vectors.md B135. -/
theorem test_rcf :
    one 0x7000 [0x10] (ini |> setF 0xd7) (fun t => isF 0xd7 0xc4 t && t.pc == 0x7001#32) = true := by decide

/-- 95_test_vectors.md B136. -/
theorem test_scf :
    one 0x7000 [0x11] ini (fun t => isF 0xd7 0x1 t && t.pc == 0x7001#32) = true := by decide

/-- 95_test_vectors.md B137. -/
theorem test_ccf :
    one 0x7000 [0x12] (ini |> setF 0x3) (fun t => isF 0x3 0x0 t && t.pc == 0x7001#32) = true := by decide

/-- 95_test_vectors.md B149. -/
theorem test_nop :
    one 0x1000 [0x00] ini (fun t => t.pc == 0x1001#32 && t.pc == 0x1001#32) = true := by decide

/-- 95_test_vectors.md B150, B151. -/
theorem test_ei :
    one 0x7000 [0x06, 0x03]
      (ini |> (State.setSr · 0xf800#16))
      (fun t => t.sr == 0xb800#16 && t.pc == 0x7002#32) = true
    ∧ one 0x7000 [0x06, 0x00]
      (ini |> (State.setSr · 0xf800#16))
      (fun t => t.sr == 0x8800#16 && t.pc == 0x7002#32) = true := by decide

/-- 95_test_vectors.md B152. -/
theorem test_di :
    one 0x7000 [0x06, 0x07]
      (ini |> (State.setSr · 0x8800#16))
      (fun t => t.sr == 0xf800#16 && t.pc == 0x7002#32) = true := by decide

/-- 95_test_vectors.md B160. -/
theorem test_halt :
    one 0x1000 [0x05] ini (fun t => t.pc == 0x1001#32 && t.pc == 0x1001#32) = true := by decide

/-- 95_test_vectors.md B168. -/
theorem test_ldf :
    one 0x7000 [0x17, 0x02]
      (ini |> (State.setSr · 0xf800#16))
      (fun t => t.sr == 0xfa00#16 && t.pc == 0x7002#32) = true := by decide

/-- 95_test_vectors.md B199, B200, B201. -/
theorem test_jrl :
    one 0x2000 [0x78, 0xFD, 0x0F] ini (fun t => t.pc == 0x3000#32) = true
    ∧ one 0x10000 [0x78, 0x00, 0x80] ini (fun t => t.pc == 0x8003#32) = true
    ∧ one 0x2000 [0x7F, 0x00, 0x10] (ini |> setF 0x1) (fun t => t.pc == 0x2003#32) = true := by decide

/-- 95_test_vectors.md B205. -/
theorem test_calr :
    one 0x8000 [0x1E, 0xFD, 0x00]
      (ini |> setL 0xfc 0x100)
      (fun t => getM 4 0xfc t == 0x8003 && t.pc == 0x8100#32 && getL 0xfc t == 0xfc) = true := by decide

/-- 95_test_vectors.md B206, B207, B208, B209. -/
theorem test_djnz :
    one 0x1000 [0xCA, 0x1C, 0xFD]
      (ini |> setB 0xe5 0x0)
      (fun t => t.pc == 0x1000#32 && getB 0xe5 t == 0xff) = true
    ∧ one 0x1000 [0xCA, 0x1C, 0xFD]
      (ini |> setB 0xe5 0x1)
      (fun t => t.pc == 0x1003#32 && getB 0xe5 t == 0x0) = true
    ∧ one 0x1000 [0xD9, 0x1C, 0xFD]
      (ini |> setW 0xe4 0x100)
      (fun t => t.pc == 0x1000#32 && getW 0xe4 t == 0xff) = true
    ∧ one 0x1000 [0xC7, 0xE5, 0x1C, 0xFC]
      (ini |> setB 0xe5 0x2)
      (fun t => getB 0xe5 t == 0x1 && t.pc == 0x1000#32) = true := by decide

/-- 95_test_vectors.md B214, B215, B216. -/
theorem test_reti :
    one 0x7000 [0x07]
      (ini |> setM 0xffa [0x0, 0x88, 0x1, 0x84, 0x12, 0x0] |> (State.writeControl · .intnest 0x1#16) |> setL 0xfc 0xffa)
      (fun t => t.sr == 0x8800#16 && t.pc == 0x128401#32 && t.intnest == 0x0#16 && getL 0xfc t == 0x1000) = true
    ∧ one 0x7000 [0x07]
      (ini |> (State.writeControl · .intnest 0x0#16))
      (fun t => t.intnest == 0xffff#16) = true
    ∧ one 0x7000 [0x07]
      (ini |> setRfp 3 |> setM 0x0 [0x0, 0x88])
      (fun t => t.rfp == 0#2 && t.iff == 0#3) = true := by decide

/-- 95_test_vectors.md B11, B67, B87, B89, B98, B99, B132, B148, B153, B169, B187, B188, B212, B228, B229, B231, B232, B233, B237, B238, B239. -/
theorem test_undefined_instruction : ∀ bs ∈ ([
    [0xC5, 0xF3, 0x21], [0xA3, 0x38], [0xE8, 0x07], [0xC9, 0x12], [0xCA, 0x40], [0xE9, 0x40],
    [0xC9, 0x23, 0x19], [0xC9, 0x0E], [0x06, 0x08], [0x17, 0x04], [0xC9, 0xE8, 0x10], [0xA3, 0x78],
    [0xB1, 0xF6], [0x01], [0x1F], [0xC8, 0x00], [0xC8, 0x1A], [0xE8, 0x10],
    [0xB0, 0x01], [0x80, 0x00], [0xC3, 0xE2, 0x21]] : List (List Nat)),
    stops bs .undefinedInstruction = true := by decide

/-- 95_test_vectors.md B165, B166. -/
theorem test_undefined_control_register : ∀ bs ∈ ([
    [0xD8, 0x2E, 0x60], [0xC8, 0x2E, 0x40]] : List (List Nat)),
    stops bs .undefinedControlRegister = true := by decide

/-- 95_test_vectors.md B234, B235, B236. -/
theorem test_undefined_register_code : ∀ bs ∈ ([
    [0xC7, 0x41, 0x03, 0x00], [0xD7, 0xE1, 0x03, 0x00, 0x00], [0xE7, 0xE2, 0x03, 0x00, 0x00, 0x00, 0x00]] : List (List Nat)),
    stops bs .undefinedRegisterCode = true := by decide

/-- 95_test_vectors.md A10, A12, A13, A15 to A21: the addressing modes. -/
theorem test_addressing_modes :
    one 0x7000 [0x94, 0x23] (ini |> setM 0x345678 [0x33, 0x22] |> setL 0xF0 0x345678)
      (fun t => getW 0xEC t == 0x2233) = true
    ∧ one 0x7000 [0xE4, 0xE6, 0x24] (ini |> setM 0x345678 [0x33, 0x22, 0x11, 0x44] |> setL 0xE4 0x34567C)
      (fun t => getL 0xF0 t == 0x44112233 && getL 0xE4 t == 0x345678) = true
    ∧ one 0x7000 [0xD5, 0xF1, 0x23] (ini |> setM 0x345678 [0x33, 0x22] |> setL 0xF0 0x345678)
      (fun t => getW 0xEC t == 0x2233 && getL 0xF0 t == 0x34567A) = true
    ∧ one 0x7000 [0x9C, 0x13, 0x23] (ini |> setM 0x345678 [0x33, 0x22] |> setL 0xF0 0x345665)
      (fun t => getW 0xEC t == 0x2233) = true
    ∧ one 0x7000 [0xD3, 0xE5, 0x00, 0xF0, 0x23] (ini |> setM 0x345678 [0x33, 0x22] |> setL 0xE4 0x346678)
      (fun t => getW 0xEC t == 0x2233) = true
    ∧ one 0x7000 [0xD3, 0x03, 0xF0, 0xE0, 0x23]
      (ini |> setM 0x345678 [0x33, 0x22] |> setL 0xF0 0x345679 |> setB 0xE0 0xFF)
      (fun t => getW 0xEC t == 0x2233) = true
    ∧ one 0x7000 [0xD3, 0x07, 0xE4, 0xE8, 0x23]
      (ini |> setM 0x345678 [0x33, 0x22] |> setL 0xE4 0x34567A |> setW 0xE8 0xFFFE)
      (fun t => getW 0xEC t == 0x2233) = true
    ∧ one 0x7000 [0xD0, 0x80, 0x23] (ini |> setM 0x80 [0x33, 0x22]) (fun t => getW 0xEC t == 0x2233) = true
    ∧ one 0x7000 [0xD1, 0x34, 0x12, 0x23] (ini |> setM 0x1234 [0x33, 0x22])
      (fun t => getW 0xEC t == 0x2233) = true
    ∧ one 0x7000 [0xD2, 0x9A, 0x78, 0x56, 0x23] (ini |> setM 0x56789A [0x33, 0x22])
      (fun t => getW 0xEC t == 0x2233) = true := by decide

/-- 95_test_vectors.md B4, B6, B7, B41: registers of other banks. -/
theorem test_banks :
    one 0x7000 [0xC7, 0x31, 0x03, 0x12] ini (fun t => getL 0x30 t == 0x1200 && getL 0x00 t == 0) = true
    ∧ one 0x7000 [0xC7, 0xD0, 0x89] (ini |> setB 0x00 0x11 |> setRfp 1) (fun t => getB 0x10 t == 0x11) = true
    ∧ one 0x7000 [0xC7, 0xD0, 0x89] (ini |> setB 0x30 0x7E) (fun t => getB 0x00 t == 0x7E) = true
    ∧ one 0x7000 [0xC7, 0xD0, 0xB9] (ini |> setB 0x10 1 |> setB 0x00 2 |> setRfp 1)
      (fun t => getB 0x10 t == 2 && getB 0x00 t == 1) = true := by decide

/-- 95_test_vectors.md A24, B48, B51, A28, A30: one item of the repeating block instructions. PC is back
at the instruction while BC, or the search, goes on (41_block_transfer_search.md R202, R206). -/
theorem test_repeating_first_item :
    one 0x7000 [0x85, 0x11]
      (ini |> setM 0x335577 [0x9A] |> setL 0xF0 0x123456 |> setL 0xF4 0x335577 |> setW 0xE4 3 |> setF 0xD7)
      (fun t => getM 1 0x123456 t == 0x9A && getL 0xF0 t == 0x123457 && getL 0xF4 t == 0x335578
        && getW 0xE4 t == 2 && isF 0xD7 0xC1 t && t.pc == 0x7000#32
        && t.repeating == some (.ldirIxIy .byte)) = true
    ∧ one 0x7000 [0x83, 0x13]
      (ini |> setM 0x1002 [3] |> setL 0xE8 0x2002 |> setL 0xEC 0x1002 |> setW 0xE4 1)
      (fun t => getM 1 0x2002 t == 3 && getL 0xE8 t == 0x2001 && getL 0xEC t == 0x1001
        && getW 0xE4 t == 0 && t.pc == 0x7002#32 && t.repeating == none) = true
    ∧ one 0x7000 [0x84, 0x15]
      (ini |> setM 0x123456 [0x33] |> setL 0xF0 0x123456 |> setB 0xE0 0x33 |> setW 0xE4 0x200)
      (fun t => getL 0xF0 t == 0x123457 && getW 0xE4 t == 0x1FF && isF 0xD6 0x46 t
        && t.pc == 0x7002#32 && t.repeating == none) = true
    ∧ one 0x7000 [0x84, 0x17]
      (ini |> setM 0x123456 [0x11] |> setL 0xF0 0x123456 |> setB 0xE0 0x55 |> setW 0xE4 3)
      (fun t => getL 0xF0 t == 0x123455 && getW 0xE4 t == 2 && isF 0xD6 0x06 t
        && t.pc == 0x7000#32 && t.repeating == some (.cpdr .byte 4#3)) = true := by decide

/-- 95_test_vectors.md B50: LDIR between two items, with a request presented, which is entered with PC at
the instruction; with nothing presented the next item runs, also where the code was overwritten. -/
def midLdir : State :=
  { (ini |> setL 0xF0 0x2001 |> setL 0xF4 0x1001 |> setW 0xE4 2 |> setL 0xFC 0x3000 |> setM 0x1001 [0x77]
      |> setM 0xFFFF40 [0, 0x13, 0, 0] |> setIff 0) with
    pc := 0x4000#32, repeating := some (.ldirIxIy .byte) }

theorem test_repeating_next_item :
    oneAt midLdir (fun t => getM 1 0x2001 t == 0x77 && getW 0xE4 t == 1 && t.pc == 0x4000#32) = true
    ∧ oneAt (setIn [.request 2#3 0x10#6] midLdir)
      (fun t => getM 4 0x2FFC t == 0x4000 && getM 2 0x2FFA t == 0x8800 && t.iff == 3#3
        && t.pc == 0x1300#32 && t.repeating == none && getW 0xE4 t == 2) = true := by decide

/-- 95_test_vectors.md A42, B91: DAA after ADD, and B92's open value, which is not looked at. -/
theorem test_daa :
    one 0x7000 [0xC9, 0x10] (ini |> setB 0xE0 0x6C) (fun t => getB 0xE0 t == 0x72 && isF 0xD7 0x14 t) = true
    ∧ one 0x7000 [0xC9, 0x10] (ini |> setB 0xE0 0x9A) (fun t => getB 0xE0 t == 0 && isF 0xD7 0x55 t) = true
    ∧ one 0x7000 [0xC9, 0x10] (ini |> setB 0xE0 0x0F |> setF 0x12)
      (fun t => getB 0xE0 t == 9 && isF 0xD7 0x16 t) = true
    ∧ one 0x7000 [0xC9, 0x10] (ini |> setB 0xE0 0x05 |> setF 0x10)
      (fun t => isF 0x02 0 t && t.pc == 0x7002#32) = true := by decide

/-! ### Reset, interrupts, micro DMA, stale fetch -/

/-- 95_test_vectors.md B217. -/
theorem test_reset :
    oneAt (ini |> setM 0xFFFF00 [0, 0x10, 0, 0xFF] |> setIff 0 |> setL 0xFC 5 |> setIn [.reset])
      (fun t => t.pc == 0x1000#32 && t.xsp == 0#32 && t.iff == 7#3 && t.rfp == 0#2 && !t.halted
        && t.intnest == 0#16 && t.sr.extractLsb' 8 8 == 0xF8#8) = true := by decide

/-- 95_test_vectors.md B218, B219, B220, B221, B222, B223, B227. -/
theorem test_interrupt :
    oneAt (setIn [.request 3#3 0x0A#6]
        ({ (ini |> setM 0xFFFF28 [0, 0x13, 0, 0] |> setL 0xFC 0x2000) with pc := 0x1234#32 }.setSr 0x8841#16))
      (fun t => getM 4 0x1FFC t == 0x1234 && getM 2 0x1FFA t == 0x8841 && t.xsp == 0x1FFA#32
        && t.sr == 0xC841#16 && t.intnest == 1#16 && t.pc == 0x1300#32) = true
    ∧ oneAt (ini |> setIff 4 |> setIn [.request 3#3 0x0A#6])
      (fun t => t.pc == 0x7001#32 && t.intnest == 0#16) = true
    ∧ oneAt (ini |> setIff 3 |> setIn [.request 3#3 0x0A#6]) (fun t => t.iff == 4#3) = true
    ∧ oneAt (ini |> setIff 0 |> setIn [.request 1#3 0x0A#6]) (fun t => t.iff == 2#3) = true
    ∧ oneAt (ini |> setIff 1 |> setIn [.request 1#3 0x0A#6]) (fun t => t.iff == 2#3) = true
    ∧ oneAt (ini |> setIff 7 |> setIn [.request 7#3 0x02#6]) (fun t => t.iff == 7#3 && t.intnest == 1#16) = true
    ∧ oneAt (ini |> setIff 7 |> setIn [.request 6#3 0x02#6]) (fun t => t.intnest == 0#16) = true
    ∧ oneAt ({ (setIn [.request 7#3 0x02#6] ini) with pc := 0x1000#32 })
      (fun t => getM 4 0xFFFFFC t == 0x1000 && getM 2 0xFFFFFA t == 0xF800
        && t.xsp == 0xFFFFFFFA#32) = true := by decide

/-- 95_test_vectors.md B226: a halted core waits, and wakes for an accepted request. -/
theorem test_halted :
    oneAt ({ (ini |> setIff 0 |> setL 0xFC 0x100) with pc := 0x1008#32, halted := true })
      (fun t => t.halted && t.pc == 0x1008#32) = true
    ∧ oneAt ({ (ini |> setIff 0 |> setL 0xFC 0x100 |> setIn [.request 3#3 1#6]) with
        pc := 0x1008#32, halted := true })
      (fun t => !t.halted && getM 4 0xFC t == 0x1008) = true := by decide

/-- 60_exceptions.md R436: a word moved with the destination stepped, and counter mode. -/
theorem test_micro_dma :
    oneAt ((ini |> setM 0x100 [0x34, 0x12] |> setIn [.microDma 3 .ioToMemInc .word]).writeControl (.dmas 3)
        0x100#32 |>.writeControl (.dmad 3) 0x200#32)
      (fun t => getM 2 0x200 t == 0x1234 && t.readControl (.dmad 3) == 0x202#32
        && t.readControl (.dmas 3) == 0x100#32 && t.pc == 0x7000#32) = true
    ∧ oneAt (setIn [.microDma 0 .counter .long] ini) (fun t => t.readControl (.dmas 0) == 1#32) = true := by
  decide

/-- 95_test_vectors.md B240, and a store just past the window (20_memory.md R85). -/
theorem test_stale_fetch :
    stops [0xF1, 0x04, 0x10, 0x41] .staleFetchHazard 0x1000 = true
    ∧ stops [0xF1, 0x0C, 0x10, 0x41] .staleFetchHazard 0x1000 = true
    ∧ one 0x1000 [0xF1, 0x0D, 0x10, 0x41] ini (fun t => t.pc == 0x1004#32) = true
    ∧ one 0x1000 [0xF1, 0x00, 0x10, 0x41] ini (fun t => t.pc == 0x1004#32) = true := by decide


/-- A store into the first 12 bytes at the target of a branch among the bytes ahead, which is found past a
dummy code too, and one just past them (20_memory.md R85; log entry 7). -/
theorem test_stale_fetch_target :
    stops [0xF1, 0x00, 0x10, 0x41, 0x1A, 0x00, 0x10] .staleFetchHazard = true
    ∧ stops [0xF1, 0x0B, 0x10, 0x41, 0x1F, 0x1A, 0x00, 0x10] .staleFetchHazard = true
    ∧ one 0x7000 [0xF1, 0x0C, 0x10, 0x41, 0x1A, 0x00, 0x10] ini (fun t => t.pc == 0x7004#32) = true := by decide

/-! ### The memory map (20_memory.md R71, R87; log entry 31) -/

/-- A store leaves ROM as it is and nothing sees it; ROM is read. -/
theorem test_rom :
    one 0x7000 [0xF1, 0x00, 0x80, 0x00, 0x05] (setM 0x8000 [0x77] iniMapped)
      (fun t => getM 1 0x8000 t == 0x77 && t.bus.accesses == []) = true
    ∧ one 0x7000 [0xC1, 0x00, 0x80, 0x21] (setM 0x8000 [0x77] iniMapped) (fun t => getB 0xE0 t == 0x77) = true := by
  decide

/-- A device sees each byte written and each byte read, in ascending order, and a byte that is read and
then written seen twice; memory keeps nothing of it. -/
theorem test_device :
    one 0x7000 [0xF1, 0x00, 0x90, 0x02, 0x34, 0x12] iniMapped
      (fun t => t.bus.accesses == [.write 0x9001 0x12#8, .write 0x9000 0x34#8] && t.byteAt 0x9000 == 0#8) = true
    ∧ one 0x7000 [0xD1, 0xFF, 0x90, 0x20] iniMapped (fun t => t.bus.accesses == [.read 0x90FF]) = true
    ∧ one 0x7000 [0xC1, 0x00, 0xA0, 0x69] iniMapped
      (fun t => t.bus.accesses.length == 2 && t.bus.accesses.getLast? == some (.read 0xA000)) = true := by decide

/-- Bytes put where nothing was make RAM there, and only there. -/
theorem test_placed_is_ram :
    let s := State.resetWith ⟨[⟨0, 0xFFFFFF, .absent⟩], [], []⟩
    ((setM 0x7000 [0x05] s).kindAt 0x7000 = .ram ∧ (setM 0x7000 [0x05] s).kindAt 0x7001 = .absent)
    ∧ oneAt ({ s with pc := 0x7000#32 }.withFetchWord 8 0x05) (fun t => t.halted) = true := by decide

/-! ### States and operands that meet the hypotheses of the statements -/

/-- An operand of each size at the highest part that is aligned, in a bank that is not the current one. -/
theorem parts_aligned :
    (RegOp.ext ⟨⟨.bank 3#2, 3#2⟩, 3#2⟩).alignedAt .byte = true
    ∧ (RegOp.ext ⟨⟨.prev, 3#2⟩, 2#2⟩).alignedAt .word = true
    ∧ (RegOp.ext ⟨⟨.unbanked, 3#2⟩, 0#2⟩).alignedAt .long = true
    ∧ (RegOp.short 0#3).alignedAt .word = true := by decide

/-- A short instruction and one of 7 bytes. -/
theorem test_meets_DecodeOfEncode :
    ((Instr.addRr .word 3#3 (.short 4#3)).wellFormed = true
      ∧ isLonePrefix (.addRr .word 3#3 (.short 4#3)) = false)
    ∧ (Instr.ldwMemImm (.regR16 ⟨.cur, 3#2⟩ ⟨⟨.cur, 2#2⟩, 2#2⟩) 0xFFFF#16).wellFormed = true
      ∧ (encode (.ldwMemImm (.regR16 ⟨.cur, 3#2⟩ ⟨⟨.cur, 2#2⟩, 2#2⟩) 0xFFFF#16)).length = 7 := by decide

theorem test_meets_EncodeOfDecode :
    decode [0xDC#8, 0x83#8, 0x00#8] = .ok (.addRr .word 3#3 (.short 4#3), [0x00#8])
    ∧ Instr.addRr .word 3#3 (.short 4#3) ∉ undefinedRows := by decide

theorem test_meets_LonePrefixFaults :
    isLonePrefix (.prefixMemRegR16 none ⟨.cur, 0#2⟩ ⟨⟨.cur, 1#2⟩, 2#2⟩) = true
    ∧ (Instr.prefixMemRegR16 none ⟨.cur, 0#2⟩ ⟨⟨.cur, 1#2⟩, 2#2⟩).wellFormed = true := by decide

theorem test_meets_UndefinedCodesFault :
    let s := setM 0x7000 [0x1F] ini
    let u := setM 0x7000 [0xC7, 0x41] ini
    (s.sample = .goOn s ∧ s.halted = false ∧ s.repeating = none ∧ s.fetchAt s.pc = .ok (.dummy1F, 1)
      ∧ Instr.dummy1F ∈ undefinedRows)
    ∧ u.sample = .goOn u ∧ u.halted = false ∧ u.repeating = none
      ∧ u.fetchAt u.pc = .error .undefinedRegisterCode := by decide

/-- An instruction that completes, one that stores into the window, and one that faults. -/
theorem test_meets_StepRunsDecodedInstruction :
    let s := setM 0x7000 [0x14] ini
    let u := setM 0x7000 [0xF1, 0x04, 0x70, 0x41] ini
    let w := setM 0x7000 [0x01] ini
    (s.sample = .goOn s ∧ s.halted = false ∧ s.repeating = none
      ∧ decode (s.bus.bytesAt 7 s.pc) = .ok (.pushA, List.replicate 6 0x00#8)
      ∧ (thenState (s.fetched 1) .pushA).staleFetch s.pc 1 = false)
    ∧ (decode (u.bus.bytesAt 7 u.pc) = .ok (.ldMemRB (.abs16 0x7004#16) 1#3, List.replicate 3 0x00#8)
      ∧ (thenState (u.fetched 4) (.ldMemRB (.abs16 0x7004#16) 1#3)).staleFetch u.pc 4 = true)
    ∧ decode (w.bus.bytesAt 7 w.pc) = .ok (.undefined01, List.replicate 6 0x00#8)
      ∧ exec .undefined01 (w.fetched 1) = .fault .undefinedInstruction := by
  refine ⟨?_, ?_, ?_, rfl⟩ <;> decide

/-- A quiet state, one in the middle of LDIR, and one whose map has addresses that are not RAM's. -/
theorem test_meets_StepKeepsInvariant :
    (State.Inv ini ∧ ∃ t, step ini = .next t)
    ∧ (State.Inv midLdir ∧ ∃ t, step midLdir = .next t)
    ∧ iniMapped.bus.wf = true ∧ (∃ t, step iniMapped = .next t) ∧ iniMapped.kindAt 0x9000 ≠ .ram := by
  refine ⟨⟨⟨rfl, rfl, ?_, ?_⟩, _, rfl⟩, ⟨⟨by decide, rfl, ?_, ?_⟩, _, rfl⟩, by decide, ⟨_, rfl⟩, by decide⟩
  · exact fun i h => nomatch (show (none : Option Instr) = some i from h)
  · intro h; exact absurd h (by decide)
  · intro i h
    have e : i = .ldirIxIy .byte := by simpa [midLdir] using h.symm
    exact e ▸ ⟨rfl, rfl⟩
  · intro h; exact absurd h (by decide)

theorem test_meets_ResetHasInvariant :
    Bus.wf ⟨exampleMap, [(0, 0x01#8), (0x8000, 0x05#8), (0xFFFFFF, 0xFF#8)], []⟩ = true := by decide

/-- A vector in RAM, and one in ROM. -/
theorem test_meets_ResetValues :
    ∀ a ∈ [0xFFFF00, 0xFFFF01, 0xFFFF02], (exampleMap.kindAt a).isMemory = true
      ∧ (MemoryMap.kindAt [⟨0xFF0000, 0xFFFFFF, .rom⟩] a).isMemory = true := by decide

theorem test_meets_ResetOverridesEverything :
    (setIn [.reset, .quiet] midLdir).inputs = [.reset, .quiet] := rfl

/-- At the lowest accepted level with IFF = 0 and IFF = 7, and between two items of LDIR. -/
theorem test_meets_InterruptIsEntered :
    (max (setIff 0 ini).iff.toNat 1 ≤ (1#3).toNat ∧ max ini.iff.toNat 1 ≤ (7#3).toNat)
    ∧ (∀ z R, midLdir.repeating ≠ some (.cpir z R) ∧ midLdir.repeating ≠ some (.cpdr z R))
    ∧ (setIn [.request 2#3 1#6] midLdir).inputs = [.request 2#3 1#6]
    ∧ max (setIn [.request 2#3 1#6] midLdir).iff.toNat 1 ≤ (2#3).toNat := by
  refine ⟨by decide, fun z R => ⟨?_, ?_⟩, rfl, by decide⟩ <;> simp [midLdir]

/-- At the highest level that is not accepted with IFF = 0 and IFF = 7, with nothing repeating. -/
theorem test_meets_MaskedRequestHasNoEffect :
    ((0#3).toNat < max (setIff 0 ini).iff.toNat 1 ∧ (6#3).toNat < max ini.iff.toNat 1)
    ∧ ∀ z R, ini.repeating ≠ some (.cpir z R) ∧ ini.repeating ≠ some (.cpdr z R) := by
  refine ⟨by decide, fun z R => ⟨?_, ?_⟩⟩ <;> simp [ini, State.reset, State.resetWith]

theorem test_meets_RetiUndoesInterruptEntry :
    let s := setIn [.request 7#3 2#6] ini
    s.inputs = [.request 7#3 2#6] ∧ s.accepts 7#3 = true ∧ s.unsampled = false
    ∧ RamAt s (spanOf 6 (s.xsp - 6#32)) ∧ ∃ t, step s = .next t :=
  ⟨rfl, rfl, rfl, fun _ _ => rfl, _, rfl⟩

/-- A halted core with nothing presented, with a request it accepts and with one it does not. -/
theorem test_meets_HaltWaits :
    let s := { ini with halted := true }
    let u := setIn [.request 7#3 2#6] s
    (s.halted = true ∧ s.repeating = none ∧ s.sample = .goOn s)
    ∧ (u.halted = true ∧ u.repeating = none ∧ u.inputs = [.request 7#3 2#6] ∧ u.accepts 7#3 = true)
    ∧ (setIn [.request 6#3 2#6] s).accepts 6#3 = false := by decide

/-- Channel 7, in a mode that moves a datum and in counter mode. -/
theorem test_meets_MicroDmaTransfers :
    let s := setIn [.microDma 7 .memToMemDec .long] ini
    let u := setIn [.microDma 7 .counter .byte] ini
    (s.inputs = [.microDma 7 .memToMemDec .long] ∧ s.unsampled = false
      ∧ DmaMode.memToMemDec ≠ .counter ∧ (0 : Fin 8) ≠ 7)
    ∧ u.inputs = [.microDma 7 .counter .byte] ∧ u.unsampled = false := by decide

/-- The first and the last byte of the window, the last one across the top of the address space. -/
theorem test_meets_StoreIntoPrefetchFaults :
    let s := setM 0x7000 [0xF1, 0x01, 0x70, 0x00, 0x05] ini
    let u := { setM 0xFFFFFA [0xF0, 0x06, 0x00, 0x05] ini with pc := 0xFFFFFA#32 }
    (s.inputs = [] ∧ s.halted = false ∧ s.repeating = none
      ∧ s.fetchAt s.pc = .ok (.ldMemImm (.abs16 0x7001#16) 0x05#8, 5)
      ∧ busAddr (s.ea (.abs16 0x7001#16)) = busAddr (s.pc + BitVec.ofNat 32 1))
    ∧ u.fetchAt u.pc = .ok (.ldMemImm (.abs8 0x06#8) 0x05#8, 4)
      ∧ busAddr (u.ea (.abs8 0x06#8)) = busAddr (u.pc + BitVec.ofNat 32 12) := by decide

/-- `LD (1000H),A` at 7000H with `JP 1000H` after it: a store into the window at the branch's target. -/
theorem test_meets_StoreIntoPrefetchFaults_target :
    let s := setM 0x7000 [0xF1, 0x00, 0x10, 0x41, 0x1A, 0x00, 0x10] ini
    let i := Instr.ldMemRB (.abs16 0x1000#16) 1#3
    let t := thenState (s.fetched 4) i
    (s.sample = .goOn s ∧ s.halted = false ∧ s.repeating = none ∧ s.fetchAt s.pc = .ok (i, 4)
      ∧ exec i (s.fetched 4) = .next t) ∧ 0x1000 ∈ t.written ∧ InPrefetchWindow t s.pc 4 0x1000 :=
  ⟨⟨by decide, rfl, rfl, by decide, rfl⟩, by decide,
    .inr ⟨4, .jpAbs16 0x1000#16, 3, 0x1000#32, 0, .here 4, by decide, by decide, by decide, by decide, by decide⟩⟩

theorem readsTo_le {s : State} {start : Addr} {off off' : Nat} (h : ReadsTo s start off off') : off ≤ off' := by
  induction h with
  | here => exact Nat.le_refl _
  | after _ _ ih => omega

/-- Where NOPs stand in the window there is no window but the first. -/
theorem window_of_nops {s : State} {start : Addr} {len a : Nat}
    (hn : ∀ off, len ≤ off → off ≤ 12 → s.fetchAt (start + BitVec.ofNat 32 off) = .ok (.nop, 1))
    (ha : ∀ k, 1 ≤ k → k ≤ 12 → a ≠ busAddr (start + BitVec.ofNat 32 k)) : ¬InPrefetchWindow s start len a := by
  rintro (⟨k, h1, h2, h⟩ | ⟨off, i, l, w, k, hr, ho, hf, hb, -⟩)
  · exact ha k h1 h2 h
  · rw [hn off (readsTo_le hr) ho] at hf
    cases hf
    exact nomatch hb

/-- `LD (2000H),A` at 7000H, and an item of LDIR at 4000H to 2001H: stores outside the windows; and an item
to 4005H, inside the first. -/
theorem test_meets_StoreIntoPrefetchFaults_outside :
    let s := setM 0x7000 [0xF1, 0x00, 0x20, 0x41] ini
    let t := thenState (s.fetched 4) (.ldMemRB (.abs16 0x2000#16) 1#3)
    let u := thenState (midLdir.past 2) (.ldirIxIy .byte)
    let w := thenState ((setL 0xF0 0x4005 midLdir).past 2) (.ldirIxIy .byte)
    (s.fetchAt s.pc = .ok (.ldMemRB (.abs16 0x2000#16) 1#3, 4) ∧ t.written = [0x2000]
      ∧ ¬InPrefetchWindow t 0x7000#32 4 0x2000)
    ∧ (midLdir.sample = .goOn midLdir ∧ midLdir.unsampled = false ∧ u.written = [0x2001]
      ∧ ¬InPrefetchWindow u 0x4000#32 2 0x2001)
    ∧ w.written = [0x4005] ∧ InPrefetchWindow w 0x4000#32 2 0x4005 := by
  refine ⟨⟨by decide, by decide, window_of_nops (fun off h1 h2 => ?_) fun k h1 h2 => ?_⟩,
    ⟨rfl, rfl, by decide, window_of_nops (fun off h1 h2 => ?_) fun k h1 h2 => ?_⟩, by decide,
    .inl ⟨5, by decide⟩⟩
  · interval_cases off <;> decide
  · interval_cases k <;> decide
  · interval_cases off <;> decide
  · interval_cases k <;> decide

theorem test_meets_RegisterPartsShareStorage :
    RegSel.alignedAt ⟨⟨.cur, 0#2⟩, 3#2⟩ .byte = true ∧ RegSel.alignedAt ⟨⟨.cur, 0#2⟩, 2#2⟩ .word = true
    ∧ RegSel.alignedAt ⟨⟨.cur, 0#2⟩, 0#2⟩ .long = true := by decide

/-- Two registers of one bank, one register of two banks, and a state with the registers written. -/
theorem test_meets_BankViewsShareRegisters :
    ((0#2, 1#2) ≠ ((0#2, 2#2) : BitVec 2 × BitVec 2)) ∧ ((0#2, 1#2) ≠ ((3#2, 1#2) : BitVec 2 × BitVec 2))
    ∧ (setRfp 2 (ini.writeLong ⟨.unbanked, 3#2⟩ 5#32)).gpr = (ini.writeLong ⟨.unbanked, 3#2⟩ 5#32).gpr := by
  decide

/-- The last byte of a long word at FFFFFEH, which is at 000001H; a location all in RAM; a byte that RAM
holds and one that a device does. -/
theorem test_meets_MemoryIsLittleEndian :
    (3 < Size.long.bytes ∧ ((0xFFFFFE#32).toNat + 3) % 2 ^ 24 = 1)
    ∧ RamAt iniMapped (spanOf Size.long.bytes 0xFFFFFE#32)
    ∧ (iniMapped.kindAt 0x7FFF).isMemory = true ∧ (iniMapped.kindAt 0x90FF).isMemory = false := by
  refine ⟨by decide, ?_, by decide, by decide⟩
  intro a ha
  have h : a = 0xFFFFFE ∨ a = 0xFFFFFF ∨ a = 0 ∨ a = 1 := by simpa [spanOf, Size.bytes, busAddr, Memory.size] using ha
  rcases h with rfl | rfl | rfl | rfl <;> decide

/-- With the default map every location is RAM. -/
theorem ini_ram (l : List Nat) : RamAt ini l := fun _ _ => rfl

theorem test_meets_LoadRegister : (RegOp.ext ⟨⟨.bank 3#2, 3#2⟩, 3#2⟩).alignedAt .byte = true
    ∧ (RegOp.ext ⟨⟨.prev, 3#2⟩, 2#2⟩).alignedAt .word = true
    ∧ (RegOp.ext ⟨⟨.unbanked, 3#2⟩, 0#2⟩).alignedAt .long = true :=
  ⟨parts_aligned.1, parts_aligned.2.1, parts_aligned.2.2.1⟩

theorem test_meets_PopLoads : (RegOp.ext ⟨⟨.unbanked, 3#2⟩, 0#2⟩).alignedAt .long = true :=
  parts_aligned.2.2.1

theorem test_meets_PopUndoesPush : (RegOp.ext ⟨⟨.unbanked, 3#2⟩, 0#2⟩).alignedAt .long = true
    ∧ RamAt ini (spanOf Size.long.bytes (ini.xsp - sizeWord .long)) :=
  ⟨parts_aligned.2.2.1, ini_ram _⟩

theorem test_meets_ExchangeSwaps : (RegOp.ext ⟨⟨.prev, 3#2⟩, 2#2⟩).alignedAt .word = true :=
  parts_aligned.2.1

/-- LDIR in the middle, with nothing presented: its next item completes and stores outside the windows. -/
theorem test_meets_BlockTransferMovesItems :
    midLdir.repeating = some (.ldirIxIy .byte) ∧ midLdir.halted = false
    ∧ midLdir.sample = .goOn midLdir ∧ midLdir.unsampled = false
    ∧ (∃ t, exec (.ldirIxIy .byte) (midLdir.past 2) = .next t)
    ∧ (thenState (midLdir.past 2) (.ldirIxIy .byte)).staleFetch midLdir.pc 2 = false :=
  ⟨rfl, rfl, rfl, rfl, ⟨_, rfl⟩, by decide⟩

/-- No byte of an item's source is stored to before that item is read. -/
def readsFirst (down : Bool) (z : Size) (dst src : Addr) (count : Nat) : Prop :=
  ∀ j k, j < k → k < count → ∀ a ∈ spanOf z.bytes (itemAddr down z dst j),
    a ∉ spanOf z.bytes (itemAddr down z src k)

/-- Where item `k`, going up or down, and byte `i` of it lie, inside the address space. -/
theorem busAddr_itemAddr (z : Size) (p k i : Nat) (hp : p + k * z.bytes + i < 2 ^ 24) :
    busAddr (itemAddr false z (BitVec.ofNat 32 p) k + BitVec.ofNat 32 i) = p + k * z.bytes + i := by
  simp only [itemAddr, Bool.false_eq_true, if_false, busAddr, Memory.size, BitVec.toNat_add, BitVec.toNat_ofNat]
  generalize k * z.bytes = x at *
  omega

theorem busAddr_itemAddr_down (z : Size) (p k i : Nat) (hk : k * z.bytes ≤ p) (hp : p + i < 2 ^ 24) :
    busAddr (itemAddr true z (BitVec.ofNat 32 p) k + BitVec.ofNat 32 i) = p - k * z.bytes + i := by
  simp only [itemAddr, if_true, busAddr, Memory.size, BitVec.toNat_add, BitVec.toNat_sub, BitVec.toNat_ofNat]
  generalize k * z.bytes = x at *
  omega

/-- Going up, a block whose source does not begin below its destination, or is apart from it. -/
theorem readsFirst_up (z : Size) (d s n : Nat) (hd : d + n * z.bytes ≤ 2 ^ 24) (hs : s + n * z.bytes ≤ 2 ^ 24)
    (h : d ≤ s ∨ s + n * z.bytes ≤ d) : readsFirst false z (BitVec.ofNat 32 d) (BitVec.ofNat 32 s) n := by
  intro j k hj hk a ha hb
  obtain ⟨i, hi, rfl⟩ := mem_spanOf.mp ha
  obtain ⟨i', hi', he⟩ := mem_spanOf.mp hb
  have h1 : (j + 1) * z.bytes ≤ k * z.bytes := Nat.mul_le_mul_right _ hj
  have h2 : (k + 1) * z.bytes ≤ n * z.bytes := Nat.mul_le_mul_right _ hk
  rw [Nat.add_mul, Nat.one_mul] at h1 h2
  rw [busAddr_itemAddr z d j i (by omega), busAddr_itemAddr z s k i' (by omega)] at he
  omega

/-- Going down, a block whose source lies above its destination. -/
theorem readsFirst_down (z : Size) (d s n : Nat) (hd : n * z.bytes ≤ d) (hs : n * z.bytes + d ≤ s)
    (h : s + z.bytes ≤ 2 ^ 24) : readsFirst true z (BitVec.ofNat 32 d) (BitVec.ofNat 32 s) n := by
  intro j k hj hk a ha hb
  obtain ⟨i, hi, rfl⟩ := mem_spanOf.mp ha
  obtain ⟨i', hi', he⟩ := mem_spanOf.mp hb
  have h1 : (j + 1) * z.bytes ≤ k * z.bytes := Nat.mul_le_mul_right _ hj
  have h2 : (k + 1) * z.bytes ≤ n * z.bytes := Nat.mul_le_mul_right _ hk
  rw [Nat.add_mul, Nat.one_mul] at h1 h2
  rw [busAddr_itemAddr_down z d j i (by omega) (by omega),
    busAddr_itemAddr_down z s k i' (by omega) (by omega)] at he
  omega

/-- Going up, three words to 2000H from 1000H, and to 0FFEH, which overlaps. The default map is all RAM. -/
theorem test_meets_LdirCopiesBlock :
    (Size.word ≠ .long ∧ itemCount 3#16 = 3 ∧ ∀ l, RamAt ini l ∧ MemoryAt ini l)
    ∧ readsFirst false .word 0x2000#32 0x1000#32 3 ∧ readsFirst false .word 0x0FFE#32 0x1000#32 3 :=
  ⟨⟨by decide, by decide, fun l => ⟨ini_ram l, fun _ _ => rfl⟩⟩,
    readsFirst_up .word 0x2000 0x1000 3 (by decide) (by decide) (.inr (by decide)),
    readsFirst_up .word 0x0FFE 0x1000 3 (by decide) (by decide) (.inl (by decide))⟩

/-- Going down, the longest block, 65536 bytes to 40000H from 50000H. -/
theorem test_meets_LdirCopiesBlock_down :
    Size.byte ≠ .long ∧ itemCount 0#16 = 65536 ∧ readsFirst true .byte 0x40000#32 0x50000#32 65536 :=
  ⟨by decide, if_pos rfl, readsFirst_down .byte 0x40000 0x50000 65536 (by decide) (by decide) (by decide)⟩

/-- In the middle of CPIR and of CPDR, with nothing and with a request presented. -/
theorem test_meets_BlockSearchComparesOneItem :
    let s := { (ini |> setIn [.request 7#3 2#6]) with repeating := some (.cpir .byte 4#3) }
    let u := { ini with repeating := some (.cpdr .word 7#3) }
    Size.word ≠ .long
    ∧ (s.repeating = some (formSearchRepeat false .byte 4#3) ∧ s.inputs.head? ≠ some .reset)
    ∧ u.repeating = some (formSearchRepeat true .word 7#3) ∧ u.inputs.head? ≠ some .reset := by decide

/-- A search of three bytes whose second is the first match, and one without a match. -/
theorem test_meets_SearchFindsFirstMatch :
    let s := ini |> setM 0x1000 [0x11, 0x33, 0x33] |> setL 0xF0 0x1000 |> setB 0xE0 0x33 |> setW 0xE4 3
    let item (k : Nat) := s.load .byte (s.readLong (shortLong 4#3) + BitVec.ofNat 32 (k * Size.byte.bytes))
    (Size.byte ≠ .long ∧ 2 ≤ (4#3).toNat ∧ 1 < itemCount s.regBC)
    ∧ (item 1 = s.readSel .byte selA ∧ item 0 ≠ s.readSel .byte selA)
    ∧ ∀ k, k < 3 → (setB 0xE0 0x99 s).load .byte (s.readLong (shortLong 4#3) + BitVec.ofNat 32 (k * 1))
        ≠ (setB 0xE0 0x99 s).readSel .byte selA := by decide

/-- With the default map the items lie in RAM. -/
theorem test_meets_SearchFindsFirstMatch_memory (l : List Nat) : MemoryAt ini l := fun _ _ => rfl

theorem test_meets_AluOnRegisters : (RegOp.ext ⟨⟨.bank 3#2, 3#2⟩, 3#2⟩).alignedAt .byte = true
    ∧ (RegOp.ext ⟨⟨.prev, 3#2⟩, 2#2⟩).alignedAt .word = true
    ∧ (RegOp.ext ⟨⟨.unbanked, 3#2⟩, 0#2⟩).alignedAt .long = true := test_meets_LoadRegister

theorem test_meets_IncrementAndDecrement :
    (RegOp.ext ⟨⟨.prev, 3#2⟩, 2#2⟩).alignedAt .word = true ∧ Size.word ≠ .long :=
  ⟨parts_aligned.2.1, by decide⟩

theorem test_meets_OneRegisterOperations :
    (RegOp.ext ⟨⟨.prev, 3#2⟩, 2#2⟩).alignedAt .word = true ∧ Size.word ≠ .byte :=
  ⟨parts_aligned.2.1, by decide⟩

/-- 9AH after an addition without carry, and 0FH after a subtraction with half borrow. -/
theorem test_meets_DecimalAdjust :
    (∃ row ∈ daaTable, daaCovers ini.flags 0x9A#8 row = true)
    ∧ ∃ row ∈ daaTable, daaCovers (setF 0x12 ini).flags 0x0F#8 row = true := by decide

theorem test_meets_DecimalArithmetic :
    let s := ini |> setB 0xE0 0x99 |> setB 0xE5 0x01
    (IsBcd (s.readShort .byte 1#3) ∧ IsBcd (s.readReg .byte (.short 2#3)))
    ∧ AluOp.add ∈ [AluOp.add, AluOp.adc, AluOp.sub, AluOp.sbc]
    ∧ AluOp.sbc ∈ [AluOp.add, AluOp.adc, AluOp.sub, AluOp.sbc] := by
  refine ⟨⟨?_, ?_⟩, by decide, by decide⟩ <;> exact ⟨by decide, by decide⟩

theorem test_meets_MultiplyGivesProduct :
    (formMul true .byte 1#3 (.ext ⟨⟨.cur, 0#2⟩, 3#2⟩)).wellFormed = true
    ∧ (formMulMem false .word 7#3 (.postInc ⟨.cur, 3#2⟩ .two)).wellFormed = true
    ∧ (formMulImm true (.ext ⟨⟨.cur, 0#2⟩, 2#2⟩) (.inl 0x80#8)).wellFormed = true
    ∧ (formMulImm false (.short 0#3) (.inr 0xFFFF#16)).wellFormed = true := by decide

/-- The four forms; a quotient that just fits, one that does not, and a divisor of 0. -/
theorem test_meets_DivideGivesQuotientAndRemainder :
    ((formDiv true .byte 1#3 (.ext ⟨⟨.cur, 0#2⟩, 3#2⟩)).wellFormed = true
      ∧ (formDivMem false .word 7#3 (.postInc ⟨.cur, 3#2⟩ .two)).wellFormed = true
      ∧ (formDivImm true (.ext ⟨⟨.cur, 0#2⟩, 2#2⟩) (.inl 0x80#8)).wellFormed = true
      ∧ (formDivImm false (.short 0#3) (.inr 0xFFFF#16)).wellFormed = true)
    ∧ (0x00FF#16).toNat / (0x01#8).toNat < 2 ^ 8 ∧ 2 ^ 8 ≤ (0x0100#16).toNat / (0x01#8).toNat
    ∧ -(2 ^ 7 : Int) ≤ (0xFF80#16).toInt.tdiv (0x01#8).toInt
    ∧ (2 ^ 7 : Int) ≤ (0x0080#16).toInt.tdiv (0x01#8).toInt := by decide

/-- A register that is XHL and one that is not. -/
theorem test_meets_MultiplyAccumulate :
    (Instr.mula (.short 4#3)).wellFormed = true ∧ (Instr.mula (.ext ⟨⟨.cur, 3#2⟩, 0#2⟩)).wellFormed = true
    ∧ gprIndex 0#2 (operandSel .long (.ext ⟨⟨.cur, 3#2⟩, 0#2⟩)).whole = gprIndex 0#2 longXHL
    ∧ gprIndex 0#2 (operandSel .long (.short 4#3)).whole ≠ gprIndex 0#2 longXHL := by decide

/-- The smallest modulo of each step and the largest, and a register that is a multiple of the step. -/
theorem test_meets_ModuloStepsStayInBlock :
    (RegOp.short 4#3).alignedAt .word = true ∧ ModuloListed .one ((1#16).toNat + 1)
    ∧ ModuloListed .two ((2#16).toNat + 2) ∧ ModuloListed .four ((4#16).toNat + 4)
    ∧ ModuloListed .one ((0x7FFF#16).toNat + 1) ∧ (0x123C#16).toNat % 4 = 0 :=
  ⟨by decide, ⟨1, by decide⟩, ⟨2, by decide⟩, ⟨3, by decide⟩, ⟨15, by decide⟩, by decide⟩

/-- The highest bit number that a byte and a word have, in the field and in A. -/
theorem test_meets_CarryTakesBit :
    (7#4).toNat < Size.byte.bits ∧ (15#4).toNat < Size.word.bits
    ∧ (setB 0xE0 0xF7 ini).regA.toNat % 16 < 8
    ∧ (setB 0xE0 0xFF ini).regA.toNat % 16 < Size.word.bits := by decide

theorem test_meets_BitIsWritten : (RegOp.ext ⟨⟨.bank 3#2, 3#2⟩, 3#2⟩).alignedAt .byte = true :=
  parts_aligned.1

theorem test_meets_BitIsTested :
    (RegOp.ext ⟨⟨.bank 3#2, 3#2⟩, 3#2⟩).alignedAt .byte = true ∧ (7#4).toNat < Size.byte.bits :=
  ⟨parts_aligned.1, by decide⟩

/-- A register with bits 9 and 12 set: the lowest is 9 and the highest 12. -/
theorem test_meets_BitSearchFindsBit :
    let w := (setW 0xF0 0x1200 ini).readReg .word (.short 4#3)
    (w.getLsbD 9 = true ∧ ∀ j, j < 9 → w.getLsbD j = false)
    ∧ w.getLsbD 12 = true ∧ ∀ j, 12 < j → w.getLsbD j = false := by
  refine ⟨by decide, by decide, fun j hj => ?_⟩
  rcases Nat.lt_or_ge j 16 with h | h
  · interval_cases j <;> decide
  · exact BitVec.getLsbD_of_ge _ _ h

theorem test_meets_RotatesAndShifts : (RegOp.ext ⟨⟨.unbanked, 3#2⟩, 0#2⟩).alignedAt .long = true :=
  parts_aligned.2.2.1

theorem test_meets_ControlRegisterAccess :
    (RegOp.short 1#3).alignedAt (ControlReg.dmam 7).size = true ∧ ControlReg.dmas 1 ≠ .dmad 1
    ∧ (ControlReg.dmac 0).size ≠ .byte := by decide

/-- A frame pointer that is not XSP; and XSP itself, which only the first clauses take. -/
theorem test_meets_LinkAndUnlink :
    (RegOp.short 7#3).alignedAt .long = true
    ∧ gprIndex 0#2 (operandSel .long (.short 6#3)).whole ≠ gprIndex 0#2 longXSP
    ∧ RamAt ini (spanOf 4 (ini.xsp - 4#32)) := ⟨by decide, by decide, ini_ram _⟩

theorem test_meets_JumpsLoadTheTarget : (RegOp.ext ⟨⟨.prev, 3#2⟩, 2#2⟩).alignedAt .word = true :=
  parts_aligned.2.1


theorem test_meets_CallsAndReturns : RamAt ini (spanOf 4 (ini.xsp - 4#32)) := ini_ram _

end Sys2Proof.Tests
end

/-! PROOF. The state: what every step keeps (StepKeepsInvariant), the step itself, reset, register parts and
banks, the status register and the control registers. -/

namespace Sys2Proof.Machine

/-! ### What accesses keep -/

/-- Accesses lead from one address space to another: the memory map and every byte that is not RAM's are
kept, and memory stays canonical (20_memory.md R71, R75, R87). -/
structure BusKept (b b' : Bus) : Prop where
  map : b'.map = b.map
  byte : ∀ a, b.map.kindAt a ≠ .ram → b'.mem.read a = b.mem.read a
  wf : b.wf = true → b'.wf = true

theorem BusKept.refl (b : Bus) : BusKept b b := ⟨rfl, fun _ _ => rfl, id⟩

theorem BusKept.trans {b b' b'' : Bus} (h : BusKept b b') (h' : BusKept b' b'') : BusKept b b'' :=
  ⟨h'.map.trans h.map, fun a ha => (h'.byte a (by rwa [h.map])).trans (h.byte a ha), h'.wf ∘ h.wf⟩

theorem busKept_noteReads (b : Bus) (k : Nat) (a : Addr) : BusKept b (b.noteReads k a) :=
  ⟨b.noteReads_map k a, fun x _ => by rw [Bus.noteReads_mem], Bus.wf_noteReads k a⟩

theorem busKept_storeLE (b : Bus) (k : Nat) (a : Addr) (v : Nat) : BusKept b (b.storeLE k a v) :=
  ⟨b.storeLE_map k a v, fun _ hx => Bus.mem_storeLE_kept b k a v fun _ => hx, Bus.wf_storeLE k a v⟩

/-- The devices' history is no part of what is kept: reset is seen by them (log entry 29). -/
theorem busKept_accesses (b : Bus) (l : List DeviceAccess) : BusKept b { b with accesses := l } :=
  ⟨rfl, fun _ _ => rfl, id⟩

/-- From `s` to `t` only accesses are made of the address space, and neither halting nor repeating
changes. -/
structure Steady (s t : State) : Prop where
  bus : BusKept s.bus t.bus
  halted : t.halted = s.halted
  repeating : t.repeating = s.repeating

namespace Steady

variable {s t : State} {z : Size} {a : Addr}

theorem refl (s : State) : Steady s s := ⟨.refl _, rfl, rfl⟩

/-- The address space, halting and repeating are the same. -/
theorem of_eq (hb : t.bus = s.bus) (hh : t.halted = s.halted) (hr : t.repeating = s.repeating) :
    Steady s t := ⟨hb ▸ .refl _, hh, hr⟩

/-- An outcome that is a next state by computation. -/
theorem of_next {u : State} (h : (.next u : Result) = .next t) (hu : Steady s u) : Steady s t := by
  cases h
  exact hu

/-! Each update of the state, and each operation that instructions share, goes on steadily. -/

section updates
variable (h : Steady s t)
include h

theorem setFlags {f : Flags} : Steady s (t.setFlags f) := ⟨h.bus, h.halted, h.repeating⟩
theorem setSr {v : BitVec 16} : Steady s (t.setSr v) := ⟨h.bus, h.halted, h.repeating⟩
theorem jump {x : Addr} : Steady s (t.jump x) := ⟨h.bus, h.halted, h.repeating⟩
theorem drew {k : Nat} : Steady s (t.drew k) := ⟨h.bus, h.halted, h.repeating⟩
theorem setXsp {v : BitVec 32} : Steady s (t.setXsp v) := ⟨h.bus, h.halted, h.repeating⟩
theorem writeLong {c : LongReg} {v : BitVec 32} : Steady s (t.writeLong c v) :=
  ⟨h.bus, h.halted, h.repeating⟩
theorem writeSel {c : RegSel} {v : BitVec z.bits} : Steady s (t.writeSel z c v) :=
  ⟨h.bus, h.halted, h.repeating⟩
theorem writeShort {R : BitVec 3} {v : BitVec z.bits} : Steady s (t.writeShort z R v) := h.writeSel
theorem writeReg {r : RegOp} {v : BitVec z.bits} : Steady s (t.writeReg z r v) := h.writeSel

theorem advance {m : MemOp} : Steady s (t.advance m) := by
  cases m with
  | preDec | postInc => exact h.writeLong
  | _ => exact h

theorem loaded : Steady s (t.loaded z a) :=
  ⟨h.bus.trans (busKept_noteReads _ _ _), h.halted, h.repeating⟩

theorem store {v : BitVec z.bits} : Steady s (t.store z a v) :=
  ⟨h.bus.trans (busKept_storeLE _ _ _ _), h.halted, h.repeating⟩

theorem afterRead {m : MemOp} : Steady s (t.afterRead z m) := h.advance.loaded
theorem push {v : BitVec z.bits} : Steady s (t.push z v) := h.setXsp.store
theorem dropTop : Steady s (t.dropTop z) := h.loaded.setXsp

theorem aluReg {op : AluOp} {d : RegSel} {b : BitVec z.bits} : Steady s (t.aluReg op z d b) := by
  unfold State.aluReg
  split
  · exact h.writeSel.setFlags.drew
  · exact h.setFlags.drew

theorem aluMem {op : AluOp} {b : BitVec z.bits} : Steady s (t.aluMem op z a b) := by
  unfold State.aluMem
  split
  · exact h.loaded.store.setFlags.drew
  · exact h.loaded.setFlags.drew

theorem incReg {down : Bool} {n : BitVec 3} {d : RegSel} : Steady s (t.incReg down z n d) := by
  cases z with
  | byte => exact h.writeSel.setFlags
  | word | long => exact h.writeSel

theorem incMem {down : Bool} {n : BitVec 3} : Steady s (t.incMem down z n a) := h.loaded.store.setFlags
theorem mulReg {signed : Bool} {d : RegSel} {b : BitVec z.bits} : Steady s (t.mulReg signed z d b) :=
  h.writeSel
theorem divReg {signed : Bool} {d : RegSel} {b : BitVec z.bits} : Steady s (t.divReg signed z d b) :=
  h.writeSel.setFlags.drew
theorem moduloReg {down : Bool} {k lowest : Nat} {i : BitVec 16} {r : RegOp} :
    Steady s (t.moduloReg down k lowest i r) := h.writeReg.drew
theorem shiftReg {op : ShiftOp} {count : Nat} {d : RegSel} : Steady s (t.shiftReg op z count d) :=
  h.writeSel.setFlags.drew
theorem shiftMem {op : ShiftOp} : Steady s (t.shiftMem op z a) := h.loaded.store.setFlags.drew
theorem rotateDigits {v w : BitVec 8} : Steady s (t.rotateDigits a v w) := h.writeSel.store.setFlags
theorem carryBit {op : CarryOp} {n i : Nat} {v : BitVec n} : Steady s (t.carryBit op v i) :=
  ⟨h.bus, h.halted, h.repeating⟩
theorem bitFlags {n i : Nat} {v : BitVec n} : Steady s (t.bitFlags v i) := h.setFlags.drew
theorem searched {found : Option Nat} : Steady s (t.searched found) := h.writeSel.setFlags.drew
theorem movePointer {down : Bool} {p : LongReg} : Steady s (t.movePointer z down p) := h.writeLong
theorem countDown : Steady s t.countDown := h.writeSel

theorem moveItem {down : Bool} {dst src : LongReg} : Steady s (t.moveItem z down dst src) :=
  h.loaded.store.movePointer.movePointer.countDown

theorem transferOne {down : Bool} {dst src : LongReg} : Steady s (t.transferOne z down dst src) :=
  h.moveItem.setFlags

theorem searchItem {down : Bool} {p : LongReg} : Steady s (t.searchItem z down p) :=
  h.loaded.movePointer.countDown.setFlags

theorem pushFrame {pcFirst : Bool} : Steady s (t.pushFrame pcFirst) := by
  unfold State.pushFrame
  split
  · exact h.setXsp.store.store
  · exact h.setXsp.store.store

theorem takeException {pcFirst : Bool} {v : BitVec 32} : Steady s (t.takeException pcFirst v) :=
  h.pushFrame.loaded.jump

/-- A change of INTNEST only. -/
theorem setIntnest {v : BitVec 16} : Steady s { t with intnest := v } := ⟨h.bus, h.halted, h.repeating⟩

theorem returnFromException : Steady s t.returnFromException :=
  h.loaded.loaded.jump.setXsp.setSr.setIntnest

theorem dmaMove {n : Fin 8} : Steady s (t.dmaMove n z) := h.loaded.store

theorem dmaTransfer {n : Fin 8} {mode : DmaMode} : Steady s (t.dmaTransfer n mode z) := by
  have hm := h.dmaMove (n := n) (z := z)
  cases mode with
  | counter => exact ⟨h.bus, h.halted, h.repeating⟩
  | _ => exact ⟨hm.bus, hm.halted, hm.repeating⟩

/-- One of two ways to go on. -/
theorem ite {u : State} {p : Prop} [Decidable p] (hu : Steady s u) : Steady s (if p then t else u) := by
  split
  · exact h
  · exact hu

end updates
end Steady

/-! ### What an instruction can do to halting, repeating and the address space -/

/-- Every instruction but HALT and the repeating block instructions makes accesses only, as far as the
invariant goes. -/
theorem exec_steady {i : Instr} {s t : State} (hi : isRepeating i = false) (hh : i ≠ .halt)
    (h : exec i s = .next t) : Steady s t := by
  have hs : Steady s s := .refl s
  cases i with
  | halt => exact absurd rfl hh
  | ldirDeHl | ldirIxIy | lddrDeHl | lddrIxIy | cpir | cpdr => exact absurd hi nofun
  -- registers and flags
  | nop => exact .of_next h hs
  | ei | di | ldf | incf | decf | exFF => exact .of_next h (.of_eq rfl rfl rfl)
  | rcf | scf => exact .of_next h hs.setFlags
  | ccf | zcf => exact .of_next h hs.setFlags.drew
  | ldRImmB | ldRImmW | ldRImmL | ldRr | ldarW | ldarL => exact .of_next h hs.writeShort
  | ldrImmB | ldrImmW | ldrImmL | ldrR | ldrNum3 | mirr | extz | exts | scc | stcfNumr | stcfAr
  | resNumr | setNumr | chgNumr => exact .of_next h hs.writeReg
  | exRr => exact .of_next h hs.writeShort.writeReg
  | cpl => exact .of_next h hs.writeReg.setFlags
  | neg => exact .of_next h hs.writeReg.setFlags.drew
  | paa => exact .of_next h (hs.writeReg.ite hs)
  | addRr | adcRr | subRr | sbcRr | andRr | xorRr | orRr | cpRr
  | addrImmB | adcrImmB | subrImmB | sbcrImmB | andrImmB | xorrImmB | orrImmB | cprImmB
  | addrImmW | adcrImmW | subrImmW | sbcrImmW | andrImmW | xorrImmW | orrImmW | cprImmW
  | addrImmL | adcrImmL | subrImmL | sbcrImmL | andrImmL | xorrImmL | orrImmL | cprImmL
  | cprNum3 => exact .of_next h hs.aluReg
  | incNumr | decNumr => exact .of_next h hs.incReg
  | mulRr | mulsRr | mulrImmB | mulrImmW | mulsrImmB | mulsrImmW => exact .of_next h hs.mulReg
  | divRr | divsRr | divrImmB | divrImmW | divsrImmB | divsrImmW => exact .of_next h hs.divReg
  | minc1 | minc2 | minc4 | mdec1 | mdec2 | mdec4 => exact .of_next h hs.moduloReg
  | daa r =>
    simp only [exec, execDaa] at h
    split at h <;> exact .of_next h hs.writeReg.setFlags.drew
  | rlcNumr | rrcNumr | rlNumr | rrNumr | slaNumr | sraNumr | sllNumr | srlNumr
  | rlcAr | rrcAr | rlAr | rrAr | slaAr | sraAr | sllAr | srlAr => exact .of_next h hs.shiftReg
  | andcfNumr | orcfNumr | xorcfNumr | ldcfNumr | andcfAr | orcfAr | xorcfAr | ldcfAr =>
    exact .of_next h hs.carryBit
  | bitNumr => exact .of_next h hs.bitFlags
  | tsetNumr => exact .of_next h hs.bitFlags.writeReg
  | bs1f | bs1b => exact .of_next h hs.searched
  | ldcCrr z k r =>
    simp only [exec, execLdcCrr] at h
    split at h
    · exact .of_next h (by cases k <;> exact .of_eq rfl rfl rfl)
    · cases h
  | ldcrCr z r k =>
    simp only [exec, execLdcrCr] at h
    split at h
    · exact .of_next h hs.writeReg
    · cases h
  -- jumps
  | jpAbs16 | jpAbs24 => exact .of_next h hs.jump
  | jr | jrl => exact .of_next h (hs.jump.ite hs)
  | djnz => exact .of_next h (hs.writeReg.ite hs.writeReg.jump)
  | jpMem => exact .of_next h (hs.advance.jump.ite hs.advance)
  -- the stack
  | pushImm | pushwImm | pushRW | pushRL | pushr | pushSr | pushA | pushF => exact .of_next h hs.push
  | pushMem => exact .of_next h hs.afterRead.push
  | callAbs16 | callAbs24 | calr => exact .of_next h hs.push.jump
  | callMem => exact .of_next h (hs.advance.push.jump.ite hs.advance)
  | popRW | popRL => exact .of_next h hs.dropTop.writeShort
  | popr => exact .of_next h hs.dropTop.writeReg
  | popA => exact .of_next h hs.dropTop.writeSel
  | popF => exact .of_next h hs.dropTop.setFlags
  | popSr => exact .of_next h hs.dropTop.setSr
  | popMem | popwMem => exact .of_next h hs.advance.dropTop.store
  | ret => exact .of_next h hs.dropTop.jump
  | retCc => exact .of_next h (hs.dropTop.jump.ite hs)
  | retd => exact .of_next h hs.dropTop.jump.setXsp
  | link => exact .of_next h hs.push.writeReg.setXsp
  | unlk => exact .of_next h hs.setXsp.dropTop.writeReg
  | swi => exact .of_next h hs.takeException
  | reti => exact .of_next h hs.returnFromException
  -- memory
  | ldAbs8Imm | ldwAbs8Imm => exact .of_next h hs.store
  | ldMemImm | ldwMemImm | ldMemRB | ldMemRW | ldMemRL => exact .of_next h hs.advance.store
  | ldMemAbs16 | ldwMemAbs16 => exact .of_next h hs.advance.loaded.store
  | ldAbs16Mem | stcfAMem | stcfNumMem | resNumMem | setNumMem | chgNumMem =>
    exact .of_next h hs.afterRead.store
  | tsetNumMem => exact .of_next h hs.afterRead.bitFlags.store
  | bitNumMem => exact .of_next h hs.afterRead.bitFlags
  | ldaW | ldaL => exact .of_next h hs.advance.writeShort
  | ldRMem => exact .of_next h hs.afterRead.writeShort
  | exMemR => exact .of_next h hs.afterRead.store.writeShort
  | addRMem | adcRMem | subRMem | sbcRMem | andRMem | xorRMem | orRMem | cpRMem =>
    exact .of_next h hs.afterRead.aluReg
  | addMemR | adcMemR | subMemR | sbcMemR | andMemR | xorMemR | orMemR | cpMemR
  | addMemImmB | adcMemImmB | subMemImmB | sbcMemImmB | andMemImmB | xorMemImmB | orMemImmB | cpMemImmB
  | addMemImmW | adcMemImmW | subMemImmW | sbcMemImmW | andMemImmW | xorMemImmW | orMemImmW
  | cpMemImmW => exact .of_next h hs.advance.aluMem
  | incNumMem | decNumMem => exact .of_next h hs.advance.incMem
  | mulRMem | mulsRMem => exact .of_next h hs.afterRead.mulReg
  | divRMem | divsRMem => exact .of_next h hs.afterRead.divReg
  | mula => exact .of_next h hs.loaded.loaded.writeReg.writeLong.setFlags
  | rlcMem | rrcMem | rlMem | rrMem | slaMem | sraMem | sllMem | srlMem =>
    exact .of_next h hs.advance.shiftMem
  | rld | rrd => exact .of_next h hs.afterRead.rotateDigits
  | andcfAMem | orcfAMem | xorcfAMem | ldcfAMem | andcfNumMem | orcfNumMem | xorcfNumMem | ldcfNumMem =>
    exact .of_next h hs.afterRead.carryBit
  -- blocks
  | ldiDeHl | ldiIxIy | lddDeHl | lddIxIy => exact .of_next h hs.transferOne
  | cpi | cpd => exact .of_next h hs.searchItem
  -- codes that are no instruction fault
  | _ => exact absurd h nofun

/-- One item of a block transfer, and perhaps on with the next. -/
theorem State.transferRepeat_cases (s : State) (i : Instr) (z : Size) (down : Bool) (dst src : LongReg) :
    ∃ u, Steady s u
      ∧ (s.transferRepeat i z down dst src = u ∨ s.transferRepeat i z down dst src = u.again i) := by
  refine ⟨(s.moveItem z down dst src).transferFlags false, (Steady.refl s).moveItem.setFlags, ?_⟩
  unfold State.transferRepeat
  dsimp only
  split
  · exact .inl rfl
  · exact .inr rfl

/-- One item of a block search, and perhaps on with the next. -/
theorem State.searchRepeat_cases (s : State) (i : Instr) (z : Size) (down : Bool) (p : LongReg) :
    ∃ u, Steady s u ∧ (s.searchRepeat i z down p = u ∨ s.searchRepeat i z down p = u.again i) := by
  refine ⟨s.searchItem z down p, (Steady.refl s).searchItem, ?_⟩
  unfold State.searchRepeat
  dsimp only
  split
  · exact .inl rfl
  · exact .inr rfl

/-- A repeating block instruction does one item and may go on with itself. -/
theorem exec_repeating {i : Instr} {s t : State} (hi : isRepeating i = true) (h : exec i s = .next t) :
    ∃ u, Steady s u ∧ (t = u ∨ t = u.again i) := by
  cases i with
  | ldirDeHl | ldirIxIy | lddrDeHl | lddrIxIy =>
    cases h
    exact s.transferRepeat_cases _ _ _ _ _
  | cpir | cpdr =>
    cases h
    exact s.searchRepeat_cases _ _ _ _
  | _ => exact absurd hi nofun

/-- What the invariant needs to know of a state that an instruction leaves, in a core that was neither
halted nor repeating. -/
structure Leaves (i : Instr) (s t : State) : Prop where
  bus : BusKept s.bus t.bus
  repeating : t.repeating = none ∨ t.repeating = some i ∧ isRepeating i = true ∧ t.halted = false

/-- Every instruction: HALT halts a core that does not repeat, a repeating block instruction may go on
with itself, and every other one leaves both alone. -/
theorem exec_leaves {i : Instr} {s t : State} (hr : s.repeating = none) (hh : s.halted = false)
    (h : exec i s = .next t) : Leaves i s t := by
  by_cases hi : isRepeating i = true
  · obtain ⟨u, hu, rfl | rfl⟩ := exec_repeating hi h
    · exact ⟨hu.bus, .inl (hu.repeating.trans hr)⟩
    · exact ⟨hu.bus, .inr ⟨rfl, hi, hu.halted.trans hh⟩⟩
  · by_cases hH : i = .halt
    · subst hH
      cases h
      exact ⟨.refl _, .inl hr⟩
    · have hu := exec_steady (by simpa using hi) hH h
      exact ⟨hu.bus, .inl (hu.repeating.trans hr)⟩

/-! ### Decoding gives repeating instructions of a size that exists only -/

/-- A repeating block instruction that is decoded is of a size that exists (41_block_transfer_search.md
R200). -/
def RepeatsListed (d : Decoded) : Prop :=
  ∀ i rest, d = .ok (i, rest) → isRepeating i = true → i.wellFormed = true

namespace RepeatsListed

@[simp] theorem ok (i : Instr) (bs : List Byte) :
    RepeatsListed (.ok (i, bs)) ↔ (isRepeating i = true → i.wellFormed = true) :=
  ⟨fun h => h i bs rfl, fun h _ _ e => by cases e; exact h⟩

@[simp] theorem error (e : DecodeError) : RepeatsListed (.error e) := by
  intro _ _ h
  cases h

@[simp] theorem illegal : RepeatsListed illegal := error _

@[simp] theorem legalIf (b : Bool) (i : Instr) (bs : List Byte) :
    RepeatsListed (legalIf b i bs) ↔ (b = true → isRepeating i = true → i.wellFormed = true) := by
  cases b <;> simp [Sys2Proof.legalIf]

/-! #### Fields and tests in front of what decides -/

theorem with8 {bs : List Byte} {k : Byte → List Byte → Decoded} (h : ∀ v t, RepeatsListed (k v t)) :
    RepeatsListed (with8 bs k) := by
  unfold Sys2Proof.with8
  split
  · exact h _ _
  · exact error _

theorem with16 {bs : List Byte} {k : BitVec 16 → List Byte → Decoded}
    (h : ∀ v t, RepeatsListed (k v t)) : RepeatsListed (with16 bs k) := by
  unfold Sys2Proof.with16
  split
  · exact h _ _
  · exact error _

theorem with24 {bs : List Byte} {k : BitVec 24 → List Byte → Decoded}
    (h : ∀ v t, RepeatsListed (k v t)) : RepeatsListed (with24 bs k) := by
  unfold Sys2Proof.with24
  split
  · exact h _ _
  · exact error _

theorem with32 {bs : List Byte} {k : BitVec 32 → List Byte → Decoded}
    (h : ∀ v t, RepeatsListed (k v t)) : RepeatsListed (with32 bs k) := by
  unfold Sys2Proof.with32
  split
  · exact h _ _
  · exact error _

@[simp] theorem ite_iff {p : Prop} [Decidable p] {d d' : Decoded} :
    RepeatsListed (if p then d else d') ↔ (p → RepeatsListed d) ∧ (¬p → RepeatsListed d') := by
  split <;> simp [*]

theorem immBySize {z : Size} {bs : List Byte} {fb : BitVec 8 → Instr} {fw : BitVec 16 → Instr}
    {fl : BitVec 32 → Instr} (hb : ∀ v t, RepeatsListed (.ok (fb v, t)))
    (hw : ∀ v t, RepeatsListed (.ok (fw v, t))) (hl : ∀ v t, RepeatsListed (.ok (fl v, t))) :
    RepeatsListed (immBySize z bs fb fw fl) := by
  unfold Sys2Proof.immBySize
  split
  · exact with8 hb
  · exact with16 hw
  · exact with32 hl

theorem immBW {z : Size} {bs : List Byte} {fb : BitVec 8 → Instr} {fw : BitVec 16 → Instr}
    (hb : ∀ v t, RepeatsListed (.ok (fb v, t))) (hw : ∀ v t, RepeatsListed (.ok (fw v, t))) :
    RepeatsListed (immBW z bs fb fw) := by
  unfold Sys2Proof.immBW
  split
  · exact with8 hb
  · exact with16 hw
  · exact illegal

theorem withNum4 {bs : List Byte} {k : BitVec 4 → List Byte → Decoded}
    (h : ∀ v t, RepeatsListed (k v t)) : RepeatsListed (withNum4 bs k) :=
  with8 fun v t => by simp [h]

theorem withSel {bs : List Byte} {k : RegSel → List Byte → Decoded}
    (h : ∀ c t, RepeatsListed (k c t)) : RepeatsListed (withSel bs k) :=
  with8 fun v t => by
    split
    · exact h _ _
    · exact error _

theorem withSelAt {z : Size} {bs : List Byte} {k : RegSel → List Byte → Decoded}
    (h : ∀ c t, RepeatsListed (k c t)) : RepeatsListed (withSelAt z bs k) :=
  withSel fun c t => by simp [h]

theorem withControl {z : Size} {bs : List Byte} {k : ControlReg → List Byte → Decoded}
    (h : ∀ c t, RepeatsListed (k c t)) : RepeatsListed (withControl z bs k) :=
  with8 fun v t => by
    split
    · simp [h]
    · exact error _

theorem pairImm {z : Size} {r : RegOp} {bs : List Byte} {fb : BitVec 8 → Instr} {fw : BitVec 16 → Instr}
    (hb : ∀ v t, RepeatsListed (.ok (fb v, t))) (hw : ∀ v t, RepeatsListed (.ok (fw v, t))) :
    RepeatsListed (pairImm z r bs fb fw) :=
  ite_iff.mpr ⟨fun _ => immBW hb hw, fun _ => illegal⟩

theorem num4BW {z : Size} {bs : List Byte} {f : BitVec 4 → Instr}
    (h : ∀ v t, RepeatsListed (.ok (f v, t))) : RepeatsListed (num4BW z bs f) :=
  ite_iff.mpr ⟨fun _ => withNum4 h, fun _ => illegal⟩

theorem word16At {b : Bool} {bs : List Byte} {f : BitVec 16 → Instr}
    (h : ∀ v t, RepeatsListed (.ok (f v, t))) : RepeatsListed (word16At b bs f) :=
  ite_iff.mpr ⟨fun _ => with16 h, fun _ => illegal⟩

theorem blockTransfer {z : Size} {m : MemOp} {i j : Instr} {bs : List Byte} (hi : i.wellFormed = z.isBW)
    (hj : j.wellFormed = z.isBW) : RepeatsListed (blockTransfer z m i j bs) := by
  unfold Sys2Proof.blockTransfer
  split
  · simp +contextual [hi, hj]
  · exact illegal

theorem blockSearch {z : Size} {m : MemOp} {f : BitVec 3 → Instr} {bs : List Byte}
    (h : ∀ R, (f R).wellFormed = z.isBW) : RepeatsListed (blockSearch z m f bs) := by
  unfold Sys2Proof.blockSearch
  split
  · simp +contextual [h]
  · exact illegal

/-! #### The maps of opcode bytes: only `decodeSrcLow` answers instructions that repeat -/

theorem oneByte (b : Byte) (bs : List Byte) : RepeatsListed (decodeOneByte b bs) := by
  unfold decodeOneByte
  dsimp only
  repeat' split
  all_goals simp [isRepeating, with8, with16, with24, with32]

theorem regLow (z : Size) (r : RegOp) (hi : BitVec 5) (lo : BitVec 3) (bs : List Byte) :
    RepeatsListed (decodeRegLow z r hi lo bs) := by
  unfold decodeRegLow
  repeat' split
  all_goals simp [isRepeating, with8, immBySize, pairImm, word16At, num4BW, withControl]

theorem regImm (z : Size) (r : RegOp) (lo : BitVec 3) (bs : List Byte) :
    RepeatsListed (decodeRegImm z r lo bs) := by
  unfold decodeRegImm
  split <;> simp [isRepeating, immBySize]

theorem shiftNum (z : Size) (r : RegOp) (lo : BitVec 3) (bs : List Byte) :
    RepeatsListed (decodeShiftNum z r lo bs) :=
  withNum4 fun n t => by split <;> simp [isRepeating]

theorem shiftA (z : Size) (r : RegOp) (lo : BitVec 3) (bs : List Byte) :
    RepeatsListed (decodeShiftA z r lo bs) := by
  unfold decodeShiftA
  split <;> simp [isRepeating]

theorem reg (z : Size) (r : RegOp) (op : Byte) (bs : List Byte) :
    RepeatsListed (decodeReg z r op bs) := by
  unfold decodeReg
  dsimp only
  split
  all_goals simp [isRepeating, regLow, regImm, shiftNum, shiftA]

theorem srcLow (z : Size) (m : MemOp) (hi : BitVec 5) (lo : BitVec 3) (bs : List Byte) :
    RepeatsListed (decodeSrcLow z m hi lo bs) := by
  unfold decodeSrcLow
  split
  · split <;> simp [isRepeating]
  · simp [isRepeating]
  · split
    iterate 4 exact blockTransfer rfl rfl
    iterate 4 exact blockSearch fun _ => rfl
  · split <;> simp [isRepeating, word16At]
  · exact illegal

theorem memImm (z : Size) (m : MemOp) (lo : BitVec 3) (bs : List Byte) :
    RepeatsListed (decodeMemImm z m lo bs) := by
  unfold decodeMemImm
  split <;> simp [isRepeating, immBW]

theorem shiftMem (z : Size) (m : MemOp) (lo : BitVec 3) (bs : List Byte) :
    RepeatsListed (decodeShiftMem z m lo bs) := by
  unfold decodeShiftMem
  split <;> simp [isRepeating]

theorem src (z : Size) (m : MemOp) (op : Byte) (bs : List Byte) :
    RepeatsListed (decodeSrc z m op bs) := by
  unfold decodeSrc
  dsimp only
  split <;> simp [isRepeating, srcLow, memImm, shiftMem]

theorem dstLow (m : MemOp) (hi : BitVec 5) (lo : BitVec 3) (bs : List Byte) :
    RepeatsListed (decodeDstLow m hi lo bs) := by
  unfold decodeDstLow
  repeat' split
  all_goals simp [isRepeating, with8, with16]

theorem dst (m : MemOp) (op : Byte) (bs : List Byte) : RepeatsListed (decodeDst m op bs) := by
  unfold decodeDst
  dsimp only
  split <;> simp [isRepeating, dstLow]

theorem afterReg (z : Size) (r : RegOp) (bs : List Byte) : RepeatsListed (afterReg z r bs) := by
  unfold Sys2Proof.afterReg
  split
  · cases r <;> simp [loneReg, isRepeating]
  · exact reg z r _ _

theorem afterMem (k : Option Size) (m : MemOp) (bs : List Byte) : RepeatsListed (afterMem k m bs) := by
  unfold Sys2Proof.afterMem
  split
  · cases m <;> simp [loneMem, isRepeating]
  · exact src _ m _ _
  · exact dst m _ _

/-! #### Addressing bytes and the first byte -/

theorem stepped {f : LongReg → Step → MemOp} {bs : List Byte} {k : MemOp → List Byte → Decoded}
    (h : ∀ m t, RepeatsListed (k m t)) : RepeatsListed (stepped f bs k) :=
  with8 fun b t => by
    split
    · exact h _ _
    · exact error _
    · exact illegal

theorem registerModes {bs : List Byte} {k : MemOp → List Byte → Decoded}
    (h : ∀ m t, RepeatsListed (k m t)) : RepeatsListed (registerModes bs k) :=
  with8 fun b t => by
    repeat' split
    · exact withSelAt fun c t => withSel fun e t => h _ _
    · exact withSelAt fun c t => withSelAt fun e t => h _ _
    · exact h _ _
    · exact with16 fun d t => h _ _
    · exact error _
    · exact error _
    · exact illegal

theorem withMem {lo : BitVec 3} {bs : List Byte} {k : MemOp → List Byte → Decoded}
    (h : ∀ m t, RepeatsListed (k m t)) : RepeatsListed (withMem lo bs k) := by
  unfold Sys2Proof.withMem
  split
  · exact with8 fun _ _ => h _ _
  · exact with16 fun _ _ => h _ _
  · exact with24 fun _ _ => h _ _
  · exact registerModes h
  · exact stepped h
  · exact stepped h

theorem ldar (bs : List Byte) : RepeatsListed (decodeLdar bs) :=
  with16 fun d t => with8 fun op t => by split <;> simp [isRepeating]

theorem firstByte (b : Byte) (bs : List Byte) : RepeatsListed (decodeClass b bs) := by
  unfold decodeClass
  dsimp only
  split
  · exact afterMem _ _ _
  · exact with8 fun d t => afterMem _ _ _
  · split
    · exact afterReg _ _ _
    · simp [isRepeating]
  · split
    · cases Size.ofCode (b.extractLsb' 4 2) with
      | none => simp [undefinedX6, isRepeating]
      | some z => cases z <;> simp [undefinedX6, isRepeating]
    · exact withSelAt fun c t => afterReg _ _ _
    · simp [isRepeating]
    · exact withMem fun m t => afterMem _ m t

end RepeatsListed

/-- A repeating block instruction that is decoded is well formed (41_block_transfer_search.md R200). -/
theorem repeatsListed_decode (bs : List Byte) : RepeatsListed (decode bs) := by
  unfold decode
  split
  · exact .error _
  · split
    · exact .oneByte _ _
    · split
      · exact .ldar _
      · exact .firstByte _ _

/-! ### The invariant -/

/-- A step that runs an instruction ends in the state the instruction leaves, its noted stores
forgotten. -/
theorem State.runInstr_next {s t : State} {i : Instr} {start : Addr} {len : Nat}
    (h : s.runInstr i start len = .next t) : ∃ u, exec i s = .next u ∧ t = u.settled := by
  unfold State.runInstr at h
  split at h
  · next u hu =>
    split at h
    · cases h
    · cases h
      exact ⟨u, hu, rfl⟩
  · cases h
  · cases h

/-- What the invariant asks and what a step keeps of the address space. -/
def StepKept (s t : State) : Prop := t.Inv ∧ BusKept s.bus t.bus

/-- An instruction that may repeat, run where the core is neither halted nor repeating, keeps the
invariant. -/
theorem stepKept_runInstr {s s' t : State} {i : Instr} {start : Addr} {len : Nat} (hs : s.Inv)
    (hb : BusKept s.bus s'.bus) (hr : s'.repeating = none) (hh : s'.halted = false)
    (hi : isRepeating i = true → i.wellFormed = true) (h : s'.runInstr i start len = .next t) :
    StepKept s t := by
  obtain ⟨u, hu, rfl⟩ := State.runInstr_next h
  obtain ⟨hbus, hrep⟩ := exec_leaves hr hh hu
  obtain ⟨hwf, -⟩ := hs
  have hk := hb.trans hbus
  refine ⟨⟨hk.wf hwf, rfl, ?_⟩, hk⟩
  rcases hrep with hrep | ⟨hrep, hir, hhalt⟩
  · simp [hrep]
  · simp [hrep, canRepeat, hir, hi hir, hhalt]

/-- What a fetch answers is what the seven bytes from the address on decode to (30_encoding.md R101). -/
theorem State.fetchAt_ok {s : State} {a : Addr} {i : Instr} {len : Nat} :
    s.fetchAt a = .ok (i, len) ↔ ∃ rest, decode (s.bus.bytesAt Config.maxLength a) = .ok (i, rest)
      ∧ len = Config.maxLength - rest.length := by
  unfold State.fetchAt
  split
  · next j rest hd =>
    simp only [hd, Except.ok.injEq, Prod.mk.injEq]
    constructor
    · rintro ⟨rfl, rfl⟩
      exact ⟨rest, ⟨rfl, rfl⟩, rfl⟩
    · rintro ⟨_, ⟨rfl, rfl⟩, rfl⟩
      exact ⟨rfl, rfl⟩
  · next e hd => simp [hd]

/-- An instruction that is fetched and may repeat is well formed. -/
theorem State.wellFormed_of_fetchAt {s : State} {a : Addr} {i : Instr} {len : Nat}
    (h : s.fetchAt a = .ok (i, len)) (hi : isRepeating i = true) : i.wellFormed = true := by
  obtain ⟨rest, hd, -⟩ := State.fetchAt_ok.mp h
  exact repeatsListed_decode _ _ _ hd hi

/-- The next instruction, fetched or going on with its next item, keeps the invariant. -/
theorem stepKept_runNext {s t : State} (hs : s.Inv) (hh : s.halted = false) (h : s.runNext = .next t) :
    StepKept s t := by
  obtain ⟨-, -, hrep, -⟩ := id hs
  unfold State.runNext at h
  split at h
  · next i hi => exact stepKept_runInstr (s' := s.past 2) hs (.refl _) rfl hh (fun _ => (hrep i hi).2) h
  · split at h
    · next i len hf =>
      exact stepKept_runInstr (s' := s.fetched len) hs (busKept_noteReads _ _ _) rfl hh
        (State.wellFormed_of_fetchAt hf) h
    · cases h

/-! #### The sampling point -/

/-- Where nothing is taken, what was presented is gone and nothing else changes. -/
theorem State.sample_goOn {s t : State} (h : s.sample = .goOn t) :
    t = { s with inputs := s.inputs.tail } := by
  unfold State.sample at h
  split at h
  case h_1 hi =>
    cases h
    rw [show s.inputs.tail = s.inputs by rw [hi, List.tail_nil]]
  case h_2 hi =>
    cases h
    rw [hi]
    rfl
  case h_3 hi =>
    split at h
    · cases h
    · cases h
      rw [hi]
      rfl
  case h_4 => cases h
  case h_5 => cases h

/-- Interrupt entry ends a repetition, and makes the accesses of the frame and of the vector. -/
theorem State.interruptEntry_kept (s : State) (l : BitVec 3) (v : BitVec 6) :
    BusKept s.bus (s.interruptEntry l v).bus ∧ (s.interruptEntry l v).repeating = none := by
  have ht : Steady s (s.takeException true (vectorOffset v)) := (Steady.refl s).takeException
  simp only [State.interruptEntry]
  exact ⟨ht.bus, trivial⟩

/-- Reset ends a repetition, and is seen by devices, as are the reads of the vector. -/
theorem State.resetEvent_kept (s : State) :
    BusKept s.bus s.resetEvent.bus ∧ s.resetEvent.repeating = none :=
  ⟨(busKept_accesses _ _).trans (busKept_noteReads _ _ _), rfl⟩

/-- An event taken at a sampling point ends a repetition, or is a micro DMA transfer, which leaves it
alone. -/
theorem State.sample_event {s t : State} (h : s.sample = .event t) :
    BusKept s.bus t.bus ∧ (t.repeating = none ∨ t.repeating = s.repeating ∧ t.halted = s.halted) := by
  unfold State.sample at h
  split at h
  case h_1 => cases h
  case h_2 => cases h
  case h_3 l v rest _ =>
    split at h
    · cases h
      obtain ⟨hk, hr⟩ := State.interruptEntry_kept { s with inputs := rest } l v
      exact ⟨hk, .inl hr⟩
    · cases h
  case h_4 n mode z rest _ =>
    cases h
    have hs : Steady s { s with inputs := rest } := .of_eq rfl rfl rfl
    have hd := hs.dmaTransfer (n := n) (mode := mode) (z := z)
    exact ⟨hd.bus, .inr ⟨hd.repeating, hd.halted⟩⟩
  case h_5 rest _ =>
    cases h
    obtain ⟨hk, hr⟩ := State.resetEvent_kept { s with inputs := rest }
    exact ⟨hk, .inl hr⟩

/-- An event taken at the sampling point keeps the invariant. -/
theorem stepKept_event {s t : State} (hs : s.Inv) (h : s.sample = .event t) : StepKept s t.settled := by
  obtain ⟨hwf, -, hrep, hhalt⟩ := id hs
  obtain ⟨hk, hr | ⟨hr, hh⟩⟩ := State.sample_event h
  · exact ⟨⟨hk.wf hwf, rfl, by simp [hr], by simp [hr]⟩, hk⟩
  · exact ⟨⟨hk.wf hwf, rfl, by simpa [hr] using hrep, by simpa [hr, hh] using hhalt⟩, hk⟩

/-- Only a search that repeats is not sampled. -/
theorem State.unsampled_of_not_repeating {s : State} (h : s.repeating = none) : s.unsampled = false := by
  simp [State.unsampled, h]

/-- Every step keeps the invariant, the memory map and every byte that is not RAM's. -/
theorem stepKept_step {s t : State} (hs : s.Inv) (h : step s = .next t) : StepKept s t := by
  obtain ⟨hwf, hw, hrep, hhalt⟩ := id hs
  unfold step State.stepOnce at h
  split at h
  · next hu =>
    have hh : s.halted = false := by
      by_contra hc
      have hr : s.repeating = none := hhalt (by simpa using hc)
      simp [State.unsampled_of_not_repeating hr] at hu
    exact stepKept_runNext hs hh h
  · split at h
    · next u he =>
      cases h
      exact stepKept_event hs he
    · next u hg =>
      obtain rfl := State.sample_goOn hg
      have hu : State.Inv { s with inputs := s.inputs.tail } := ⟨hwf, hw, hrep, hhalt⟩
      split at h
      · cases h
        exact ⟨hu, .refl _⟩
      · next hh => exact (stepKept_runNext hu (by simpa using hh) h :)

/-- Settles O7: what the invariant asks is kept by an event at the sampling point, by waiting, and by an
instruction. -/
theorem stepKeepsInvariant : Obligations.StepKeepsInvariant := by
  intro s t hs h
  obtain ⟨hinv, hbus⟩ := stepKept_step hs h
  exact ⟨hinv, hbus.map, hbus.byte⟩

/-! ### A step that fetches -/

/-- Where nothing is taken at the sampling point, a core that is not halted goes on. -/
theorem step_of_goOn {s s' : State} (hu : s.unsampled = false) (hg : s.sample = .goOn s')
    (hh : s'.halted = false) : step s = s'.runNext := by
  simp [step, State.stepOnce, hu, hg, hh]

/-- Where nothing repeats, the instruction at PC is fetched and run. -/
theorem State.runNext_of_fetch {s : State} {i : Instr} {len : Nat} (hr : s.repeating = none)
    (hf : s.fetchAt s.pc = .ok (i, len)) : s.runNext = (s.fetched len).runInstr i s.pc len := by
  simp [State.runNext, hr, hf]

/-- The step that fetches (30_encoding.md R101). -/
theorem step_of_fetch {s s' : State} {i : Instr} {len : Nat} (hg : s.sample = .goOn s')
    (hh : s.halted = false) (hr : s.repeating = none) (hf : s.fetchAt s.pc = .ok (i, len)) :
    step s = (s'.fetched len).runInstr i s.pc len := by
  have hu := State.unsampled_of_not_repeating hr
  obtain rfl := State.sample_goOn hg
  rw [step_of_goOn hu hg hh]
  exact State.runNext_of_fetch (s := { s with inputs := s.inputs.tail }) hr hf

/-- All that the fetch of an instruction changes. -/
theorem State.fetched_eq (s : State) (len : Nat) :
    s.fetched len = { s.past len with
      bus := { s.bus with accesses := readsSeen s.bus.map len s.pc ++ s.bus.accesses } } := by
  rw [State.fetched, Bus.noteReads_eq]

theorem frame_past {s : State} (len : Nat) (h : s.repeating = none) : Frame s (s.past len) [] [] :=
  .of_eq rfl rfl (List.nil_subset _) ⟨rfl, rfl, rfl, rfl, rfl⟩ ⟨rfl, rfl, rfl, rfl, rfl, h.symm⟩

/-- Settles O6, by following the step through the sampling point and the fetch. -/
theorem stepRunsDecodedInstruction : Obligations.StepRunsDecodedInstruction := by
  rintro s s' i rest len hg hh hr hd rfl
  have hf : s.fetchAt s.pc = .ok (i, 7 - rest.length) := State.fetchAt_ok.mpr ⟨rest, hd, rfl⟩
  have hs := step_of_fetch hg hh hr hf
  obtain rfl := State.sample_goOn hg
  exact ⟨hs, rfl, State.fetched_eq _ _, frame_past _ hr, rfl⟩

/-! ### Reset -/

/-- Reset reads three bytes, and neither halts nor repeats. -/
theorem resetWith_inv {b : Bus} (h : b.wf = true) : (State.resetWith b).Inv :=
  ⟨Bus.wf_noteReads 3 Config.vectorBase h, rfl, fun _ hi => by simp [State.resetWith] at hi, fun _ => rfl⟩

/-- Settles O8: reset makes reads only, and the memory of State.reset is empty. -/
theorem resetHasInvariant : Obligations.ResetHasInvariant :=
  ⟨resetWith_inv rfl, fun _ => resetWith_inv⟩

theorem spanOf_vectorBase : spanOf 3 Config.vectorBase = [0xFFFF00, 0xFFFF01, 0xFFFF02] := by decide

/-- The reset vector is a 24-bit number. -/
theorem Bus.resetVector_high (b : Bus) : b.resetVector.extractLsb' 24 8 = 0#8 := by
  have h := b.loadLE_lt 3 Config.vectorBase
  refine BitVec.eq_of_toNat_eq ?_
  simp only [Bus.resetVector, BitVec.extractLsb'_toNat, BitVec.toNat_ofNat, Nat.shiftRight_eq_div_pow]
  omega

theorem Bus.read_memory {b : Bus} {a : Nat} (h : (b.map.kindAt a).isMemory = true) :
    b.read a = b.mem.read a := if_pos h

theorem Bus.noteRead_memory {b : Bus} {a : Nat} (h : (b.map.kindAt a).isMemory = true) :
    b.noteRead a = b := if_pos h

/-- The reset vector where memory holds its three bytes (70_reset_and_hazards.md R460). -/
theorem Bus.resetVector_memory {b : Bus}
    (h : ∀ a ∈ [0xFFFF00, 0xFFFF01, 0xFFFF02], (b.map.kindAt a).isMemory = true) :
    b.resetVector = 0#8 ++ b.mem.read 0xFFFF02 ++ b.mem.read 0xFFFF01 ++ b.mem.read 0xFFFF00 := by
  have ha := spanOf_vectorBase
  simp only [spanOf, List.cons.injEq, and_true] at ha
  obtain ⟨h0, h1, h2⟩ : _ ∧ _ ∧ _ := by simpa using h
  refine BitVec.eq_of_toNat_eq ?_
  simp only [Bus.resetVector, Bus.loadLE, ha, Bus.noteRead_memory, Bus.read_memory, h0, h1, h2,
    BitVec.toNat_append, BitVec.toNat_ofNat, ← Nat.shiftLeft_add_eq_or_of_lt (BitVec.isLt _)]
  have b0 := (b.mem.read 0xFFFF00).isLt
  have b1 := (b.mem.read 0xFFFF01).isLt
  have b2 := (b.mem.read 0xFFFF02).isLt
  simp only [Nat.shiftLeft_eq]
  omega

theorem State.xsp_resetWith (b : Bus) : (State.resetWith b).xsp = 0x00000000#32 := by
  simp [State.xsp, State.readLong, State.resetWith]

theorem State.sr_resetWith (b : Bus) : (State.resetWith b).sr = 0xF800#16 := by
  simp [State.sr, State.resetWith, Flags.toByte, bit1]

/-- Settles O9: the fields are as `State.resetWith` gives them, and PC is the vector read. -/
theorem resetValues : Obligations.ResetValues := by
  intro b
  have hsr : (State.resetWith b).sr.extractLsb' 8 8 = 0xF8#8 := by rw [State.sr_resetWith]; rfl
  refine ⟨State.xsp_resetWith b, rfl, rfl, rfl, hsr, rfl, b.resetVector_high, fun h => ?_,
    Bus.noteReads_eq b 3 Config.vectorBase⟩
  have hbus := Bus.noteReads_memory b (k := 3) (a := Config.vectorBase) (by rwa [spanOf_vectorBase])
  exact ⟨Bus.resetVector_memory h, hbus⟩

/-! ### Parts of registers, and banks -/

/-- Settles O19: a part is a run of bits of its register, and a write replaces that run. -/
theorem registerPartsShareStorage : Obligations.RegisterPartsShareStorage := by
  refine ⟨fun s z c v h => ⟨s.readSel_writeSel_same v h, frame_writeSel s z c v, rfl, rfl⟩, fun s w => ?_⟩
  exact ⟨(extract_append (s.readLong w) 0 16 16).symm, (extract_append (s.readLong w) 0 8 8).symm,
    (extract_append (s.readLong w) 16 8 8).symm⟩

/-- Bank registers are stored in one place only if they are the same. -/
theorem gprIndex_bank_inj {rfp b b' reg reg' : BitVec 2} :
    gprIndex rfp ⟨.bank b, reg⟩ = gprIndex rfp ⟨.bank b', reg'⟩ ↔ b = b' ∧ reg = reg' := by
  decide +revert

/-- The unbanked registers are stored in four places, whatever RFP is. -/
theorem gprIndex_unbanked_inj {rfp rfp' reg reg' : BitVec 2} :
    gprIndex rfp ⟨.unbanked, reg⟩ = gprIndex rfp' ⟨.unbanked, reg'⟩ ↔ reg = reg' := by
  decide +revert

/-- Two names read the same register where they are stored in one place. -/
theorem State.readLong_of_gpr {s t : State} {c d : LongReg} (hg : t.gpr = s.gpr)
    (h : gprIndex t.rfp c = gprIndex s.rfp d) : t.readLong c = s.readLong d := by
  simp only [State.readLong, hg, h]

/-- Settles O20: every name is the place that `gprIndex` gives it, and LDF, INCF and DECF move the names
only. -/
theorem bankViewsShareRegisters : Obligations.BankViewsShareRegisters := by
  refine ⟨fun s reg v => ⟨rfl, rfl, ?_, ?_, fun b b' reg' h => ?_, fun t reg' h => ?_⟩, fun s n => ?_⟩
  · exact State.readLong_writeLong_same s ⟨.cur, reg⟩ v
  · exact State.readLong_writeLong_same s ⟨.prev, reg⟩ v
  · rw [State.readLong_writeLong, if_neg]
    rw [gprIndex_bank_inj]
    rintro ⟨rfl, rfl⟩
    exact h rfl
  · have ht : t.readLong ⟨.unbanked, reg'⟩ = (s.writeLong ⟨.unbanked, reg⟩ v).readLong ⟨.unbanked, reg'⟩ :=
      State.readLong_of_gpr h rfl
    rw [ht, State.readLong_writeLong]
    simp only [gprIndex_unbanked_inj]
  · refine ⟨⟨_, rfl, rfl, fun _ => rfl⟩, ⟨_, rfl, rfl, fun reg => ?_⟩, ⟨_, rfl, rfl, fun _ => rfl⟩⟩
    refine State.readLong_of_gpr rfl ?_
    simp [gprIndex]

/-! ### The status register -/

/-- The six flags are read back from their byte. -/
theorem Flags.ofByte_toByte (f : Flags) : Flags.ofByte f.toByte = f := by
  obtain ⟨s, z, h, v, n, c⟩ := f
  revert s z h v n c
  decide

/-- A byte taken as F loses bits 5 and 3 (10_state.md R36). -/
theorem Flags.toByte_ofByte (b : BitVec 8) : (Flags.ofByte b).toByte = b &&& 0xD7#8 := by
  revert b
  decide

/-- Bits 5 and 3 of F and F' read 0 (10_state.md R36). -/
theorem Flags.toByte_fixed (f : Flags) : f.toByte.getLsbD 5 = false ∧ f.toByte.getLsbD 3 = false := by
  obtain ⟨s, z, h, v, n, c⟩ := f
  revert s z h v n c
  decide

/-- The bits of SR: F, RFP, the fixed bits 10 and 11, IFF, the fixed bit 15 (10_state.md R29, R36). -/
theorem State.getLsbD_sr (s : State) {i : Nat} (hi : i < 16) : s.sr.getLsbD i
    = if i < 8 then s.flags.toByte.getLsbD i
      else if i < 10 then s.rfp.getLsbD (i - 8)
      else if i < 12 then i == 11
      else if i < 15 then s.iff.getLsbD (i - 12)
      else true := by
  unfold State.sr
  rw [BitVec.getLsbD_append, BitVec.getLsbD_append, BitVec.getLsbD_append, BitVec.getLsbD_append,
    BitVec.getLsbD_append]
  interval_cases i <;> simp

/-- SR read after SR is written: the written word with its fixed bits as they are drawn. -/
theorem State.sr_setSr (s : State) (v : BitVec 16) :
    (s.setSr v).sr = (v &&& 0x73D7#16) ||| 0x8800#16 := by
  refine BitVec.eq_of_getLsbD_eq fun i hi => ?_
  rw [State.getLsbD_sr _ hi]
  simp only [State.setSr_flags, State.setSr_rfp, State.setSr_iff, Flags.toByte_ofByte]
  interval_cases i <;> simp

theorem State.sr_returnFromException (s : State) :
    let v : BitVec 16 := s.load .word s.xsp
    s.returnFromException.sr = (v &&& 0x73D7#16) ||| 0x8800#16 :=
  State.sr_setSr s (s.load .word s.xsp)

/-- Settles O22: the fixed bits are bits of SR and F', and setting them from a word masks it. -/
theorem fixedStatusBits : Obligations.FixedStatusBits := by
  intro s
  obtain ⟨h5, h3⟩ := s.flags.toByte_fixed
  refine ⟨⟨?_, ?_, ?_, ?_, ?_⟩, s.altFlags.toByte_fixed,
    ⟨_, rfl, State.sr_setSr (s.dropTop .word) (s.top .word)⟩, ⟨_, rfl, s.sr_returnFromException⟩,
    _, rfl, Flags.toByte_ofByte (s.top .byte), rfl, rfl⟩
  all_goals rw [State.getLsbD_sr s (by omega)]
  · rfl
  · rfl
  · rfl
  · exact h5
  · exact h3

/-- The fields of SR (10_state.md R29). -/
theorem State.sr_fields (s : State) : s.sr.extractLsb' 12 3 = s.iff ∧ s.sr.extractLsb' 8 2 = s.rfp
    ∧ s.sr.extractLsb' 0 8 = s.flags.toByte := by
  refine ⟨?_, ?_, ?_⟩
  all_goals
    refine BitVec.eq_of_getLsbD_eq fun i hi => ?_
    rw [BitVec.getLsbD_extractLsb', State.getLsbD_sr s (by omega)]
    interval_cases i <;> simp

/-- Writing IFF alone writes its three bits of SR (44_cpu_control.md R341). -/
theorem State.sr_iff (s : State) (n : BitVec 3) :
    State.sr { s with iff := n } = (s.sr &&& 0x8FFF#16) ||| (n.setWidth 16 <<< 12) := by
  refine BitVec.eq_of_getLsbD_eq fun i hi => ?_
  rw [BitVec.getLsbD_or, BitVec.getLsbD_and, State.getLsbD_sr _ hi, State.getLsbD_sr _ hi]
  interval_cases i <;> simp

/-- IFF set to 7, as DI does (44_cpu_control.md R342). -/
theorem State.sr_disabled (s : State) : State.sr { s with iff := 7#3 } = s.sr ||| 0x7000#16 := by
  refine BitVec.eq_of_getLsbD_eq fun i hi => ?_
  rw [BitVec.getLsbD_or, State.getLsbD_sr _ hi, State.getLsbD_sr _ hi]
  interval_cases i <;> simp

/-- Settles O23: the fields are runs of SR's bits, and each instruction is one update of the state. -/
theorem statusRegisterAccess : Obligations.StatusRegisterAccess := by
  intro s
  obtain ⟨hiff, hrfp, hf⟩ := s.sr_fields
  refine ⟨⟨hiff, hrfp, hf, by rw [hf, Flags.ofByte_toByte]⟩, fun n => ⟨_, rfl, rfl, s.sr_iff n⟩,
    ⟨_, rfl, rfl, s.sr_disabled⟩, ⟨rfl, _, rfl, pushed_push s .word s.sr⟩, ?_⟩
  obtain ⟨hr, hsp, hc, -⟩ := frame_dropTop s .word
  exact ⟨_, rfl, rfl, rfl, rfl, State.xsp_dropTop s .word, rfl, hr, hsp, hc, rfl, rfl, rfl⟩

/-! ### Control registers -/

/-- A control register written is read back. -/
theorem State.readControl_writeControl_same (s : State) (k : ControlReg) (v : BitVec k.size.bits) :
    (s.writeControl k v).readControl k = v := by
  cases k with
  | intnest => rfl
  | _ => exact Vector.getElem_set_self _

/-- One register of a file of registers is written, and another is read. -/
theorem getElem_set_of_ne {α : Type} {m : Nat} (w : Vector α m) {n n' : Fin m} (v : α) (h : n' ≠ n) :
    (w.set n v)[n'] = w[n'] :=
  Vector.getElem_set_ne n.isLt n'.isLt fun e => h (Fin.ext e.symm)

/-- A write of a control register keeps every other one. -/
theorem State.readControl_writeControl_ne (s : State) {k k' : ControlReg} (v : BitVec k.size.bits)
    (h : k' ≠ k) : (s.writeControl k v).readControl k' = s.readControl k' := by
  cases k with
  | dmas n =>
    cases k' with
    | dmas n' => exact getElem_set_of_ne _ v (mt (congrArg ControlReg.dmas) h)
    | _ => rfl
  | dmad n =>
    cases k' with
    | dmad n' => exact getElem_set_of_ne _ v (mt (congrArg ControlReg.dmad) h)
    | _ => rfl
  | dmac n =>
    cases k' with
    | dmac n' => exact getElem_set_of_ne _ v (mt (congrArg ControlReg.dmac) h)
    | _ => rfl
  | dmam n =>
    cases k' with
    | dmam n' => exact getElem_set_of_ne _ v (mt (congrArg ControlReg.dmam) h)
    | _ => rfl
  | intnest =>
    cases k' with
    | intnest => exact absurd rfl h
    | _ => rfl

/-- A write of a control register keeps all that is no control register. -/
theorem frame_writeControl (s : State) (k : ControlReg) (v : BitVec k.size.bits) :
    RegsKept s (s.writeControl k v) [] ∧ SpaceKept s (s.writeControl k v) []
      ∧ ModeKept s (s.writeControl k v) ∧ (s.writeControl k v).flags = s.flags
      ∧ (s.writeControl k v).pc = s.pc := by
  cases k <;>
    exact ⟨fun _ _ _ _ => rfl, .of_eq rfl (List.Subset.refl _) _, ⟨rfl, rfl, rfl, rfl, rfl, rfl⟩, rfl, rfl⟩

theorem exec_ldcCrr (s : State) (k : ControlReg) (r : RegOp) :
    exec (.ldcCrr k.size k r) s = .next (s.writeControl k (s.readReg k.size r)) := by
  simp [exec, execLdcCrr]

theorem exec_ldcrCr (s : State) (k : ControlReg) (r : RegOp) :
    exec (.ldcrCr k.size r k) s = .next (s.writeReg k.size r (s.readControl k)) := by
  simp [exec, execLdcrCr]

/-- Settles O57: the three cases are the write, the read and the size that does not fit. -/
theorem controlRegisterAccess : Obligations.ControlRegisterAccess := by
  refine ⟨fun s k r h => ⟨⟨_, exec_ldcCrr s k r, ?_⟩, _, exec_ldcrCr s k r, ?_⟩, fun s z k r h => ?_⟩
  · obtain ⟨hr, hs, hm, hf, hp⟩ := frame_writeControl s k (s.readReg k.size r)
    exact ⟨State.readControl_writeControl_same s k _,
      fun _ hk => State.readControl_writeControl_ne s _ hk, hf, hp, hr, hs, hm⟩
  · exact wroteReg_writeSel_plain s _ (alignedAt_operandSel h)
  · exact ⟨if_neg h, if_neg h⟩

end Sys2Proof.Machine

/-! PROOF. Memory: stores into code that may be prefetched, loads and stores byte by byte, and effective
addresses. -/

namespace Sys2Proof.Machine

/-! ### Decoding reads from the front -/

/-- The bytes that a decoding leaves are the last of those it was given. -/
def LeavesSuffix (bs : List Byte) (d : Decoded) : Prop := ∀ i rest, d = .ok (i, rest) → rest <:+ bs

namespace LeavesSuffix

@[simp] theorem ok_iff {bs rest : List Byte} {i : Instr} : LeavesSuffix bs (.ok (i, rest)) ↔ rest <:+ bs :=
  ⟨fun h => h i rest rfl, fun h _ _ e => by cases e; exact h⟩

@[simp] theorem of_error (bs : List Byte) (e : DecodeError) : LeavesSuffix bs (.error e) :=
  fun _ _ h => by cases h

@[simp] theorem of_illegal (bs : List Byte) : LeavesSuffix bs illegal := of_error bs _

/-- What is left of the end of a list is left of the list. -/
theorem mono {bs t : List Byte} {d : Decoded} (h : LeavesSuffix t d) (ht : t <:+ bs) : LeavesSuffix bs d :=
  fun i rest e => (h i rest e).trans ht

theorem cons {b : Byte} {t : List Byte} {d : Decoded} (h : LeavesSuffix t d) : LeavesSuffix (b :: t) d :=
  h.mono (List.suffix_cons b t)

@[simp] theorem legalIf (b : Bool) (i : Instr) (bs : List Byte) : LeavesSuffix bs (legalIf b i bs) := by
  cases b <;> simp [Sys2Proof.legalIf]

@[simp] theorem ite_iff {p : Prop} [Decidable p] {bs : List Byte} {d d' : Decoded} :
    LeavesSuffix bs (if p then d else d') ↔ (p → LeavesSuffix bs d) ∧ (¬p → LeavesSuffix bs d') := by
  split <;> simp [*]

/-! #### Fields: each is taken off the front -/

@[simp] theorem with8 {bs : List Byte} {k : Byte → List Byte → Decoded} (h : ∀ v t, LeavesSuffix t (k v t)) :
    LeavesSuffix bs (with8 bs k) := by
  unfold Sys2Proof.with8
  split
  · exact (h _ _).cons
  · exact of_error _ _

@[simp] theorem with16 {bs : List Byte} {k : BitVec 16 → List Byte → Decoded}
    (h : ∀ v t, LeavesSuffix t (k v t)) : LeavesSuffix bs (with16 bs k) := by
  unfold Sys2Proof.with16
  split
  · exact (h _ _).cons.cons
  · exact of_error _ _

@[simp] theorem with24 {bs : List Byte} {k : BitVec 24 → List Byte → Decoded}
    (h : ∀ v t, LeavesSuffix t (k v t)) : LeavesSuffix bs (with24 bs k) := by
  unfold Sys2Proof.with24
  split
  · exact (h _ _).cons.cons.cons
  · exact of_error _ _

@[simp] theorem with32 {bs : List Byte} {k : BitVec 32 → List Byte → Decoded}
    (h : ∀ v t, LeavesSuffix t (k v t)) : LeavesSuffix bs (with32 bs k) := by
  unfold Sys2Proof.with32
  split
  · exact (h _ _).cons.cons.cons.cons
  · exact of_error _ _

@[simp] theorem withNum4 {bs : List Byte} {k : BitVec 4 → List Byte → Decoded}
    (h : ∀ v t, LeavesSuffix t (k v t)) : LeavesSuffix bs (withNum4 bs k) :=
  with8 fun v t => by simp [h]

@[simp] theorem withSel {bs : List Byte} {k : RegSel → List Byte → Decoded}
    (h : ∀ c t, LeavesSuffix t (k c t)) : LeavesSuffix bs (withSel bs k) :=
  with8 fun v t => by
    split
    · exact h _ _
    · exact of_error _ _

@[simp] theorem withSelAt {z : Size} {bs : List Byte} {k : RegSel → List Byte → Decoded}
    (h : ∀ c t, LeavesSuffix t (k c t)) : LeavesSuffix bs (withSelAt z bs k) :=
  withSel fun c t => by simp [h]

@[simp] theorem withControl {z : Size} {bs : List Byte} {k : ControlReg → List Byte → Decoded}
    (h : ∀ c t, LeavesSuffix t (k c t)) : LeavesSuffix bs (withControl z bs k) :=
  with8 fun v t => by split <;> simp [h]

@[simp] theorem immBySize (z : Size) (bs : List Byte) (fb : BitVec 8 → Instr) (fw : BitVec 16 → Instr)
    (fl : BitVec 32 → Instr) : LeavesSuffix bs (immBySize z bs fb fw fl) := by
  cases z <;> simp [Sys2Proof.immBySize]

@[simp] theorem immBW (z : Size) (bs : List Byte) (fb : BitVec 8 → Instr) (fw : BitVec 16 → Instr) :
    LeavesSuffix bs (immBW z bs fb fw) := by
  cases z <;> simp [Sys2Proof.immBW]

@[simp] theorem pairImm (z : Size) (r : RegOp) (bs : List Byte) (fb : BitVec 8 → Instr)
    (fw : BitVec 16 → Instr) : LeavesSuffix bs (pairImm z r bs fb fw) := by
  simp [Sys2Proof.pairImm]

@[simp] theorem num4BW (z : Size) (bs : List Byte) (f : BitVec 4 → Instr) :
    LeavesSuffix bs (num4BW z bs f) := by
  simp [Sys2Proof.num4BW]

@[simp] theorem word16At (b : Bool) (bs : List Byte) (f : BitVec 16 → Instr) :
    LeavesSuffix bs (word16At b bs f) := by
  simp [Sys2Proof.word16At]

@[simp] theorem blockTransfer (z : Size) (m : MemOp) (i j : Instr) (bs : List Byte) :
    LeavesSuffix bs (blockTransfer z m i j bs) := by
  cases m <;> simp [Sys2Proof.blockTransfer]

@[simp] theorem blockSearch (z : Size) (m : MemOp) (f : BitVec 3 → Instr) (bs : List Byte) :
    LeavesSuffix bs (blockSearch z m f bs) := by
  cases m <;> simp [Sys2Proof.blockSearch]

/-! #### The maps of opcode bytes: each row is such a field, or ends the instruction -/

theorem oneByte (b : Byte) (bs : List Byte) : LeavesSuffix bs (decodeOneByte b bs) := by
  unfold decodeOneByte
  dsimp only
  repeat' split
  all_goals simp

theorem regLow (z : Size) (r : RegOp) (hi : BitVec 5) (lo : BitVec 3) (bs : List Byte) :
    LeavesSuffix bs (decodeRegLow z r hi lo bs) := by
  unfold decodeRegLow
  repeat' split
  all_goals simp

theorem regImm (z : Size) (r : RegOp) (lo : BitVec 3) (bs : List Byte) :
    LeavesSuffix bs (decodeRegImm z r lo bs) := by
  unfold decodeRegImm
  split <;> simp

theorem shiftNum (z : Size) (r : RegOp) (lo : BitVec 3) (bs : List Byte) :
    LeavesSuffix bs (decodeShiftNum z r lo bs) :=
  withNum4 fun n t => by split <;> simp

theorem shiftA (z : Size) (r : RegOp) (lo : BitVec 3) (bs : List Byte) :
    LeavesSuffix bs (decodeShiftA z r lo bs) := by
  unfold decodeShiftA
  split <;> simp

theorem reg (z : Size) (r : RegOp) (op : Byte) (bs : List Byte) : LeavesSuffix bs (decodeReg z r op bs) := by
  unfold decodeReg
  dsimp only
  split <;> simp [regLow, regImm, shiftNum, shiftA]

theorem srcLow (z : Size) (m : MemOp) (hi : BitVec 5) (lo : BitVec 3) (bs : List Byte) :
    LeavesSuffix bs (decodeSrcLow z m hi lo bs) := by
  unfold decodeSrcLow
  repeat' split
  all_goals simp

theorem memImm (z : Size) (m : MemOp) (lo : BitVec 3) (bs : List Byte) :
    LeavesSuffix bs (decodeMemImm z m lo bs) := by
  unfold decodeMemImm
  split <;> simp

theorem shiftMem (z : Size) (m : MemOp) (lo : BitVec 3) (bs : List Byte) :
    LeavesSuffix bs (decodeShiftMem z m lo bs) := by
  unfold decodeShiftMem
  split <;> simp

theorem src (z : Size) (m : MemOp) (op : Byte) (bs : List Byte) : LeavesSuffix bs (decodeSrc z m op bs) := by
  unfold decodeSrc
  dsimp only
  split <;> simp [srcLow, memImm, shiftMem]

theorem dstLow (m : MemOp) (hi : BitVec 5) (lo : BitVec 3) (bs : List Byte) :
    LeavesSuffix bs (decodeDstLow m hi lo bs) := by
  unfold decodeDstLow
  repeat' split
  all_goals simp

theorem dst (m : MemOp) (op : Byte) (bs : List Byte) : LeavesSuffix bs (decodeDst m op bs) := by
  unfold decodeDst
  dsimp only
  split <;> simp [dstLow]

@[simp] theorem afterReg (z : Size) (r : RegOp) (bs : List Byte) : LeavesSuffix bs (afterReg z r bs) := by
  cases bs with
  | nil => simp [Sys2Proof.afterReg]
  | cons op t => exact (reg z r op t).cons

@[simp] theorem afterMem (k : Option Size) (m : MemOp) (bs : List Byte) :
    LeavesSuffix bs (afterMem k m bs) := by
  cases bs with
  | nil => simp [Sys2Proof.afterMem]
  | cons op t =>
    cases k with
    | some z => exact (src z m op t).cons
    | none => exact (dst m op t).cons

/-! #### Addressing bytes and the first byte -/

theorem stepped {f : LongReg → Step → MemOp} {bs : List Byte} {k : MemOp → List Byte → Decoded}
    (h : ∀ m t, LeavesSuffix t (k m t)) : LeavesSuffix bs (stepped f bs k) :=
  with8 fun b t => by split <;> simp [h]

theorem registerModes {bs : List Byte} {k : MemOp → List Byte → Decoded}
    (h : ∀ m t, LeavesSuffix t (k m t)) : LeavesSuffix bs (registerModes bs k) :=
  with8 fun b t => by
    repeat' split
    all_goals simp [h]

theorem withMem {lo : BitVec 3} {bs : List Byte} {k : MemOp → List Byte → Decoded}
    (h : ∀ m t, LeavesSuffix t (k m t)) : LeavesSuffix bs (withMem lo bs k) := by
  unfold Sys2Proof.withMem
  split <;> simp [h, registerModes, stepped]

theorem ldar (bs : List Byte) : LeavesSuffix bs (decodeLdar bs) :=
  with16 fun d t => with8 fun op t => by split <;> simp

theorem firstByte (b : Byte) (bs : List Byte) : LeavesSuffix bs (decodeClass b bs) := by
  unfold decodeClass
  dsimp only
  repeat' split
  all_goals simp [withMem]

end LeavesSuffix

/-- Every instruction takes a byte, and what it leaves is the end of the bytes after that one. -/
theorem leavesSuffix_decode (b : Byte) (t : List Byte) : LeavesSuffix t (decode (b :: t)) := by
  unfold decode
  dsimp only
  split
  · exact .oneByte b t
  · split
    · exact (LeavesSuffix.ldar _).cons
    · exact .firstByte _ _

theorem length_lt_of_decode {bs rest : List Byte} {i : Instr} (h : decode bs = .ok (i, rest)) :
    rest.length < bs.length := by
  cases bs with
  | nil => cases h
  | cons b t => exact Nat.lt_succ_of_le (leavesSuffix_decode b t i rest h).length_le

/-! ### Code that may be prefetched (20_memory.md R85) -/

@[simp] theorem Bus.length_bytesAt (b : Bus) (k : Nat) (a : Addr) : (b.bytesAt k a).length = k := by
  induction k generalizing b a with
  | zero => rfl
  | succ k ih => simp [Bus.bytesAt, ih]

/-- An instruction that is fetched is at least one byte long (30_encoding.md R100). -/
theorem State.fetchAt_length_pos {s : State} {a : Addr} {i : Instr} {len : Nat}
    (h : s.fetchAt a = .ok (i, len)) : 1 ≤ len := by
  obtain ⟨rest, hd, rfl⟩ := State.fetchAt_ok.mp h
  have hlt := length_lt_of_decode hd
  rw [Bus.length_bytesAt] at hlt
  exact Nat.sub_pos_of_lt hlt

theorem inWindow_iff {w : Addr} {a : Nat} :
    inWindow w a = true ↔ ∃ k, k < 12 ∧ a = busAddr (w + BitVec.ofNat 32 k) := by
  simp [inWindow, Config.queueBytes]

/-- The 12 bytes from the one after `start` on are those 1 to 12 bytes after it. -/
theorem inWindow_next_iff {start : Addr} {a : Nat} : inWindow (start + 1#32) a = true
    ↔ ∃ k, 1 ≤ k ∧ k ≤ 12 ∧ a = busAddr (start + BitVec.ofNat 32 k) := by
  simp only [inWindow_iff, addr_step]
  constructor
  · rintro ⟨k, hk, ha⟩
    exact ⟨k + 1, by omega, by omega, ha⟩
  · rintro ⟨k, h1, h12, ha⟩
    exact ⟨k - 1, by omega, by rwa [Nat.sub_add_cancel h1]⟩

/-- Reading in a row from `off` bytes after `start` on comes to a branch instruction that begins at most 12
bytes after it, with target `w`. -/
def BranchAhead (s : State) (start : Addr) (off : Nat) (w : Addr) : Prop :=
  ∃ off' i l, ReadsTo s start off off' ∧ off' ≤ 12 ∧ s.fetchAt (start + BitVec.ofNat 32 off') = .ok (i, l)
    ∧ s.branchTarget i (start + BitVec.ofNat 32 (off' + l)) = some w

theorem ReadsTo.le {s : State} {start : Addr} {off off' : Nat} (h : ReadsTo s start off off') :
    off ≤ off' := by
  induction h with
  | here => exact Nat.le_refl _
  | after _ _ ih => omega

/-- One instruction further: the branch is the instruction read, or lies ahead of it. -/
theorem State.mem_branchTargets_succ {s : State} {start : Addr} {fuel off : Nat} {w : Addr} :
    w ∈ s.branchTargets start (fuel + 1) off ↔ off ≤ 12 ∧ ∃ i l,
      s.fetchAt (start + BitVec.ofNat 32 off) = .ok (i, l)
        ∧ (s.branchTarget i (start + BitVec.ofNat 32 (off + l)) = some w
          ∨ w ∈ s.branchTargets start fuel (off + l)) := by
  rw [State.branchTargets]
  by_cases hoff : off ≤ 12
  · rw [if_neg (by simpa [Config.queueBytes] using hoff)]
    cases hf : s.fetchAt (start + BitVec.ofNat 32 off) with
    | ok p =>
      obtain ⟨i, l⟩ := p
      simp [hoff]
    | error e => simp
  · rw [if_pos (by simpa [Config.queueBytes] using hoff)]
    simp [hoff]

/-- Every target listed is that of a branch ahead. -/
theorem State.branchAhead_of_mem {s : State} {start : Addr} {fuel off : Nat} {w : Addr}
    (h : w ∈ s.branchTargets start fuel off) : BranchAhead s start off w := by
  induction fuel generalizing off with
  | zero => exact absurd h List.not_mem_nil
  | succ fuel ih =>
    obtain ⟨hoff, i, l, hf, hb | hm⟩ := State.mem_branchTargets_succ.mp h
    · exact ⟨off, i, l, .here off, hoff, hf, hb⟩
    · obtain ⟨off', i', l', hr, hrest⟩ := ih hm
      exact ⟨off', i', l', .after hf hr, hrest⟩

/-- No instruction is empty, so fuel for every byte from `off` to 12 reaches every branch ahead. -/
theorem State.mem_of_branchAhead {s : State} {start : Addr} {fuel off : Nat} {w : Addr}
    (h : BranchAhead s start off w) (hfuel : 12 < off + fuel) : w ∈ s.branchTargets start fuel off := by
  obtain ⟨off', i', l', hr, hoff', hf', hb⟩ := h
  induction hr generalizing fuel with
  | here off =>
    obtain ⟨f, rfl⟩ : ∃ f, fuel = f + 1 := ⟨fuel - 1, by omega⟩
    exact State.mem_branchTargets_succ.mpr ⟨hoff', i', l', hf', .inl hb⟩
  | @after off off' len i hf hr ih =>
    have hlen := State.fetchAt_length_pos hf
    have hoff := ReadsTo.le hr
    obtain ⟨f, rfl⟩ : ∃ f, fuel = f + 1 := ⟨fuel - 1, by omega⟩
    exact State.mem_branchTargets_succ.mpr ⟨by omega, i, len, hf, .inr (ih (by omega) hoff' hf' hb)⟩

/-- The windows of R85, with the targets as the model lists them. -/
theorem inPrefetchWindow_iff {s : State} {start : Addr} {len a : Nat} (hlen : 1 ≤ len) :
    InPrefetchWindow s start len a ↔ inWindow (start + 1#32) a = true
      ∨ ∃ w ∈ s.branchTargets start Config.queueBytes len, inWindow w a = true := by
  unfold InPrefetchWindow
  refine or_congr inWindow_next_iff.symm ⟨?_, ?_⟩
  · rintro ⟨off, i, l, w, k, hr, hoff, hf, hb, hk, ha⟩
    have hfuel : 12 < len + Config.queueBytes := Nat.lt_add_of_pos_left hlen
    exact ⟨w, State.mem_of_branchAhead ⟨off, i, l, hr, hoff, hf, hb⟩ hfuel, inWindow_iff.mpr ⟨k, hk, ha⟩⟩
  · rintro ⟨w, hw, ha⟩
    obtain ⟨off, i, l, hr, hoff, hf, hb⟩ := State.branchAhead_of_mem hw
    obtain ⟨k, hk, ha⟩ := inWindow_iff.mp ha
    exact ⟨off, i, l, w, k, hr, hoff, hf, hb, hk, ha⟩

/-- The test at the end of an instruction is for a store into one of the windows. -/
theorem State.staleFetch_iff {t : State} {start : Addr} {len : Nat} (hlen : 1 ≤ len) :
    t.staleFetch start len = true ↔ ∃ a ∈ t.written, InPrefetchWindow t start len a := by
  simp [State.staleFetch, inPrefetchWindow_iff hlen]

/-- An instruction that completes ends the run if it has stored into a window, and goes on otherwise. -/
theorem State.runInstr_of_exec {s t : State} {i : Instr} {start : Addr} {len : Nat} (hlen : 1 ≤ len)
    (he : exec i s = .next t) :
    ((∃ a ∈ t.written, InPrefetchWindow t start len a) → s.runInstr i start len = .fault .staleFetchHazard)
      ∧ ((∀ a ∈ t.written, ¬InPrefetchWindow t start len a) → s.runInstr i start len = .next t.settled) := by
  simp only [State.runInstr, he]
  refine ⟨fun h => if_pos ((State.staleFetch_iff hlen).mpr h), fun h => if_neg fun hs => ?_⟩
  obtain ⟨a, ha, hw⟩ := (State.staleFetch_iff hlen).mp hs
  exact h a ha hw

/-- A repeating block instruction goes on with its next item. -/
theorem step_of_repeat {s s' : State} {i : Instr} (hg : s.sample = .goOn s') (hh : s.halted = false)
    (hu : s.unsampled = false) (hr : s.repeating = some i) : step s = (s'.past 2).runInstr i s.pc 2 := by
  obtain rfl := State.sample_goOn hg
  rw [step_of_goOn hu hg hh, State.runNext]
  simp only [hr]

theorem exec_ldMemImm (s : State) (m : MemOp) (v : BitVec 8) :
    exec (.ldMemImm m v) s = .next ((s.advance m).store .byte (s.ea m) v) := rfl

/-- Settles O18: the test at the end of an instruction says whether a store is in a window, as the
statement reads the windows; `LD (mem),#` stores at its effective address. -/
theorem storeIntoPrefetchFaults : Obligations.StoreIntoPrefetchFaults := by
  refine ⟨fun s s' t i len hg hh hr hf he => ?fetched, fun s s' t i hg hh hu hr he => ?goingOn,
    fun s m v len k hi hh hr hf h1 h12 ha => ?stored⟩
  case fetched =>
    rw [step_of_fetch hg hh hr hf]
    exact State.runInstr_of_exec (State.fetchAt_length_pos hf) he
  case goingOn =>
    rw [step_of_repeat hg hh hu hr]
    exact State.runInstr_of_exec (by omega) he
  case stored =>
    have hg : s.sample = .goOn s := by simp [State.sample, hi]
    rw [step_of_fetch hg hh hr hf]
    refine (State.runInstr_of_exec (State.fetchAt_length_pos hf) (exec_ldMemImm _ m v)).1
      ⟨busAddr (s.ea m), ?_, .inl ⟨k, h1, h12, ha⟩⟩
    rw [State.ea_fetched]
    exact List.mem_cons_self ..

/-! ### Bytes of an access -/

/-- An access reaches the bus at the low 24 bits of its address (20_memory.md R72). -/
theorem busAddr_add (a : Addr) (k : Nat) : busAddr (a + BitVec.ofNat 32 k) = (a.toNat + k) % 2 ^ 24 := by
  simp only [busAddr, Memory.size, BitVec.toNat_add, BitVec.toNat_ofNat]
  omega

theorem State.toNat_load (s : State) (z : Size) (a : Addr) : (s.load z a).toNat = s.bus.loadLE z.bytes a := by
  have hlt := s.bus.loadLE_lt z.bytes a
  have hz : 256 ^ z.bytes = 2 ^ z.bits := by cases z <;> rfl
  rw [State.load, BitVec.toNat_ofNat, Nat.mod_eq_of_lt (hz ▸ hlt)]

/-- Byte `k` of a loaded value is what the address plus `k` answers once devices have seen the reads of the
bytes before it (20_memory.md R74, R87). -/
theorem State.load_byte (s : State) {z : Size} (a : Addr) {k : Nat} (h : k < z.bytes) :
    (s.load z a).extractLsb' (8 * k) 8 = (s.bus.noteReads k a).read (busAddr (a + BitVec.ofNat 32 k)) := by
  refine BitVec.eq_of_toNat_eq ?_
  rw [extract_byte, State.toNat_load, BitVec.toNat_ofNat]
  exact s.bus.loadLE_byte a h

/-- What an address answers after a read: memory as before, a device by what it has seen. -/
theorem Bus.read_noteReads (b : Bus) (k : Nat) (a : Addr) (x : Nat) :
    (b.noteReads k a).read x = if (b.map.kindAt x).isMemory then b.mem.read x
      else Config.deviceByte (readsSeen b.map k a ++ b.accesses) x := by
  rw [Bus.noteReads_eq]
  rfl

/-- All that a load changes: devices have seen it. -/
theorem State.loaded_eq (s : State) (z : Size) (a : Addr) : s.loaded z a
    = { s with bus := { s.bus with accesses := readsSeen s.bus.map z.bytes a ++ s.bus.accesses } } := by
  rw [State.loaded, Bus.noteReads_eq]

/-- Settles O24: the laws of stores as they stand, and a load taken byte by byte. -/
theorem memoryIsLittleEndian : Obligations.MemoryIsLittleEndian := by
  refine fun s z a v => ⟨busAddr_add a, ⟨stored_store s z a v, frame_store s z a v, rfl, rfl⟩,
    s.load_store_same z a v, fun k hk => ?_, s.loaded_eq z a⟩
  rw [State.load_byte s a hk, Bus.read_noteReads, busAddr_add]
  rfl

/-! ### Effective addresses -/

/-- A signed displacement or index is added modulo 2^32 (30_encoding.md R111). -/
theorem toNat_add_signExtend (x : BitVec 32) {n : Nat} (d : BitVec n) (h : n ≤ 32) :
    ((x + d.signExtend 32).toNat : Int) = (x.toNat + d.toInt) % 2 ^ 32 := by
  have hd : (d.signExtend 32).toInt = d.toInt := BitVec.toInt_signExtend_of_le h
  rw [← hd, BitVec.toInt_eq_toNat_cond, BitVec.toNat_add]
  split <;> omega

theorem toNat_sub_emod (x d : BitVec 32) : ((x - d).toNat : Int) = (x.toNat - d.toNat) % 2 ^ 32 := by
  rw [BitVec.toNat_sub]
  omega

/-- Settles O25, mode by mode: a displacement or index is added signed, an address written out is extended
with zeros, and a step is read back from the register it is written to. -/
theorem effectiveAddresses : Obligations.EffectiveAddresses := by
  intro s
  refine ⟨fun R => rfl, fun R d => ?indD8, fun a => ?abs8, fun a => ?abs16, fun a => ?abs24, fun c => rfl,
    fun c d => ?regD16, fun c e => ?regR8, fun c e => ?regR16, fun c k => ⟨?preDec, ?stepped⟩,
    fun c k => ⟨rfl, ?postInc⟩, fun m => ⟨frame_advance s m, by simp, by simp⟩⟩
  case indD8 | regD16 | regR8 | regR16 => exact toNat_add_signExtend _ _ (by decide)
  case abs8 | abs16 | abs24 => exact BitVec.toNat_setWidth_of_le (by decide)
  case preDec => exact toNat_sub_emod _ _
  case stepped => exact State.readLong_writeLong_same s c _
  case postInc =>
    rw [State.advance, State.readLong_writeLong_same]
    exact BitVec.toNat_add _ _

end Sys2Proof.Machine

/-! PROOF. Encoding and decoding: each row is decoded back, what is decoded is its own encoding, the codes
that are no instruction; and the conditions after a comparison. -/

namespace Sys2Proof

open Machine

/-! ### Fields of a byte -/

theorem opcode_high (hi : BitVec 5) (lo : BitVec 3) : (hi ++ lo).extractLsb' 3 5 = hi :=
  BitVec.extractLsb'_append_eq_left

theorem opcode_low (hi : BitVec 5) (lo : BitVec 3) : (hi ++ lo).extractLsb' 0 3 = lo :=
  BitVec.extractLsb'_append_eq_right

theorem nibble_high (hi lo : BitVec 4) : (hi ++ lo).extractLsb' 4 4 = hi :=
  BitVec.extractLsb'_append_eq_left

theorem nibble_low (hi lo : BitVec 4) : (hi ++ lo).extractLsb' 0 4 = lo :=
  BitVec.extractLsb'_append_eq_right

/-- A first byte of 80H or more, put together: `1 m z z q qqq` (30_encoding.md R102). -/
def classByte (m : Bool) (zz : BitVec 2) (q : Bool) (lo : BitVec 3) : Byte :=
  1#1 ++ BitVec.ofBool m ++ zz ++ BitVec.ofBool q ++ lo

theorem classByte_fields (m : Bool) (zz : BitVec 2) (q : Bool) (lo : BitVec 3) :
    (classByte m zz q lo).getLsbD 7 = true ∧ (classByte m zz q lo).getLsbD 6 = m
      ∧ (classByte m zz q lo).extractLsb' 4 2 = zz ∧ (classByte m zz q lo).getLsbD 3 = q
      ∧ (classByte m zz q lo).extractLsb' 0 3 = lo := by
  revert m zz q lo
  decide

theorem exists_classByte {b : Byte} (h : b.getLsbD 7 = true) : ∃ m zz q lo, b = classByte m zz q lo := by
  refine ⟨b.getLsbD 6, b.extractLsb' 4 2, b.getLsbD 3, b.extractLsb' 0 3, ?_⟩
  revert b
  decide

theorem classByte_eq_ldar (m : Bool) (zz : BitVec 2) (q : Bool) (lo : BitVec 3) :
    classByte m zz q lo = 0xf3#8 ↔ m = true ∧ zz = 0b11#2 ∧ q = false ∧ lo = 3#3 := by
  revert m zz q lo
  decide

theorem memFirst_eq (k : Option Size) (lo : BitVec 3) :
    memFirst k (0b0#1 ++ lo) = classByte true (memClassCode k) false lo := by
  unfold memFirst
  generalize memClassCode k = zz
  revert zz lo
  decide

theorem Size.ofCode_memClassCode (k : Option Size) : Size.ofCode (memClassCode k) = k := by
  cases k with
  | none => rfl
  | some z => exact Size.ofCode_code z

/-! ### Reading a field back -/

theorem with8_cons (b : Byte) (t : List Byte) (k : Byte → List Byte → Decoded) :
    with8 (b :: t) k = k b t := rfl

theorem withNum4_cons (n : BitVec 4) (t : List Byte) (k : BitVec 4 → List Byte → Decoded) :
    withNum4 ((0b0000#4 ++ n) :: t) k = k n t := by
  rw [withNum4, with8_cons, nibble_high, nibble_low, if_pos rfl]

theorem withSel_cons (c : RegSel) (t : List Byte) (k : RegSel → List Byte → Decoded) :
    withSel (c.code :: t) k = k c t := by
  simp only [withSel, with8_cons, RegSel.ofCode_code]

theorem withSelAt_cons {z : Size} {c : RegSel} (h : c.alignedAt z = true) (t : List Byte)
    (k : RegSel → List Byte → Decoded) : withSelAt z (c.code :: t) k = k c t := by
  rw [withSelAt, withSel_cons, if_pos h]

theorem withControl_cons (c : ControlReg) (t : List Byte) (k : ControlReg → List Byte → Decoded) :
    withControl c.size (c.code :: t) k = k c t := by
  simp only [withControl, with8_cons, ControlReg.ofCode_code, if_true]

theorem stepped_cons (f : LongReg → Step → MemOp) (c : LongReg) (s : Step) (t : List Byte)
    (k : MemOp → List Byte → Decoded) : stepped f ((c.code ++ s.code) :: t) k = k (f c s) t := by
  simp only [stepped, with8_cons, extract_high, extract_low, LongReg.ofCode_code, Step.ofCode_code]

theorem withSelAt_long (c : LongReg) (t : List Byte) (k : RegSel → List Byte → Decoded) :
    withSelAt .long ((c.code ++ 0b00#2) :: t) k = k ⟨c, 0b00#2⟩ t :=
  withSelAt_cons (c := ⟨c, 0b00#2⟩) rfl t k

/-- Bit 1 of an addressing byte tells (r32) and (r32+d16) from (r32+r8), (r32+r16) and LDAR
(30_encoding.md R110). -/
theorem modeByte_ne (c : BitVec 6) (p : BitVec 2) (hp : p.getLsbD 1 = false) :
    (c ++ p : Byte) ≠ 0x03#8 ∧ (c ++ p : Byte) ≠ 0x07#8 ∧ (c ++ p : Byte) ≠ 0x13#8 := by
  revert c p
  decide

theorem registerModes_reg (c : LongReg) (t : List Byte) (k : MemOp → List Byte → Decoded) :
    registerModes ((c.code ++ 0b00#2) :: t) k = k (.reg c) t := by
  obtain ⟨h3, h7, -⟩ := modeByte_ne c.code 0b00#2 rfl
  simp only [registerModes, with8_cons, if_neg h3, if_neg h7, extract_high, extract_low, LongReg.ofCode_code]

theorem registerModes_regD16 (c : LongReg) (d : BitVec 16) (t : List Byte)
    (k : MemOp → List Byte → Decoded) :
    registerModes ((c.code ++ 0b01#2) :: (le16 d ++ t)) k = k (.regD16 c d) t := by
  obtain ⟨h3, h7, -⟩ := modeByte_ne c.code 0b01#2 rfl
  simp only [registerModes, with8_cons, if_neg h3, if_neg h7, extract_high, extract_low, LongReg.ofCode_code,
    with16_le16]

theorem registerModes_regR8 (c : LongReg) (e : RegSel) (t : List Byte) (k : MemOp → List Byte → Decoded) :
    registerModes (0x03#8 :: (c.code ++ 0b00#2) :: e.code :: t) k = k (.regR8 c e) t := by
  simp only [registerModes, with8_cons, if_true, withSelAt_long, withSel_cons]

theorem registerModes_regR16 (c : LongReg) {e : RegSel} (he : e.alignedAt .word = true) (t : List Byte)
    (k : MemOp → List Byte → Decoded) :
    registerModes (0x07#8 :: (c.code ++ 0b00#2) :: e.code :: t) k = k (.regR16 c e) t := by
  have h : ¬(0x07#8 = 0x03#8) := by decide
  simp only [registerModes, with8_cons, if_neg h, if_true, withSelAt_long, withSelAt_cons he]

/-! ### The class of a first byte (30_encoding.md R102) -/

theorem decodeClass_ind (zz : BitVec 2) (R : BitVec 3) (t : List Byte) :
    decodeClass (classByte false zz false R) t = afterMem (Size.ofCode zz) (.ind R) t := by
  obtain ⟨-, h6, hzz, h3, hlo⟩ := classByte_fields false zz false R
  simp only [decodeClass, h6, hzz, h3, hlo]

theorem decodeClass_indD8 (zz : BitVec 2) (R : BitVec 3) (t : List Byte) :
    decodeClass (classByte false zz true R) t
      = with8 t fun d t => afterMem (Size.ofCode zz) (.indD8 R d) t := by
  obtain ⟨-, h6, hzz, h3, hlo⟩ := classByte_fields false zz true R
  simp only [decodeClass, h6, hzz, h3, hlo]

theorem decodeClass_short {zz : BitVec 2} {z : Size} (hz : Size.ofCode zz = some z) (R : BitVec 3)
    (t : List Byte) : decodeClass (classByte true zz true R) t = afterReg z (.short R) t := by
  obtain ⟨-, h6, hzz, h3, hlo⟩ := classByte_fields true zz true R
  simp only [decodeClass, h6, hzz, h3, hlo, hz]

theorem decodeClass_swi {zz : BitVec 2} (hz : Size.ofCode zz = none) (n : BitVec 3) (t : List Byte) :
    decodeClass (classByte true zz true n) t = .ok (.swi n, t) := by
  obtain ⟨-, h6, hzz, h3, hlo⟩ := classByte_fields true zz true n
  simp only [decodeClass, h6, hzz, h3, hlo, hz]

theorem decodeClass_x6 (zz : BitVec 2) (t : List Byte) :
    decodeClass (classByte true zz false 6#3) t = .ok (undefinedX6 (Size.ofCode zz), t) := by
  obtain ⟨-, h6, hzz, h3, hlo⟩ := classByte_fields true zz false 6#3
  simp only [decodeClass, h6, hzz, h3, hlo]

theorem decodeClass_ext {zz : BitVec 2} {z : Size} (hz : Size.ofCode zz = some z) (t : List Byte) :
    decodeClass (classByte true zz false 7#3) t = withSelAt z t fun c t => afterReg z (.ext c) t := by
  obtain ⟨-, h6, hzz, h3, hlo⟩ := classByte_fields true zz false 7#3
  simp only [decodeClass, h6, hzz, h3, hlo, hz]

theorem decodeClass_f7 {zz : BitVec 2} (hz : Size.ofCode zz = none) (t : List Byte) :
    decodeClass (classByte true zz false 7#3) t = .ok (.undefinedF7, t) := by
  obtain ⟨-, h6, hzz, h3, hlo⟩ := classByte_fields true zz false 7#3
  simp only [decodeClass, h6, hzz, h3, hlo, hz]

theorem decodeClass_mode (zz : BitVec 2) {lo : BitVec 3} (h6 : lo ≠ 6#3) (h7 : lo ≠ 7#3) (t : List Byte) :
    decodeClass (classByte true zz false lo) t
      = withMem lo t fun m t => afterMem (Size.ofCode zz) m t := by
  obtain ⟨-, hm, hzz, h3, hlo⟩ := classByte_fields true zz false lo
  simp only [decodeClass, hm, hzz, h3, hlo]
  split
  · exact absurd rfl h6
  · exact absurd rfl h7
  · exact absurd rfl h7
  · rfl

/-- Where LDAR does not begin, the class decides (30_encoding.md R125). -/
theorem decode_classByte {m q : Bool} {zz : BitVec 2} {lo : BitVec 3} {t : List Byte}
    (h : t.head? = some 0x13#8 → classByte m zz q lo ≠ 0xf3#8) :
    decode (classByte m zz q lo :: t) = decodeClass (classByte m zz q lo) t := by
  obtain ⟨h7, -⟩ := classByte_fields m zz q lo
  simp only [decode]
  rw [if_neg (ne_false_of_eq_true h7)]
  split
  · next hb => exact absurd hb (h rfl)
  · rfl

/-- LDAR is told from the class by its first two bytes (40_load_exchange.md R183). -/
theorem decode_ldar (d : BitVec 16) (op : Byte) (t : List Byte) :
    decode ([0xf3#8, 0x13#8] ++ le16 d ++ [op] ++ t) = decodeLdar (le16 d ++ op :: t) := rfl

/-! ### Prefixes (30_encoding.md R105, R106, R110) -/

theorem decode_regBytes {z : Size} {r : RegOp} (h : r.alignedAt z = true) (bs : List Byte) :
    decode (regBytes z r ++ bs) = afterReg z r bs := by
  cases r with
  | short R =>
    change decode (classByte true z.code true R :: bs) = _
    rw [decode_classByte (by simp [classByte_eq_ldar]), decodeClass_short z.ofCode_code]
  | ext c =>
    change decode (memFirst (some z) (0b0#1 ++ 7#3) :: c.code :: bs) = _
    rw [memFirst_eq, decode_classByte (by simp [classByte_eq_ldar]),
      decodeClass_ext (Size.ofCode_memClassCode _)]
    exact withSelAt_cons h bs _

theorem withMem_abs16 (a : BitVec 16) (t : List Byte) (k : MemOp → List Byte → Decoded) :
    withMem 1#3 (le16 a ++ t) k = k (.abs16 a) t := with16_le16 a t fun a t => k (.abs16 a) t

theorem withMem_abs24 (a : BitVec 24) (t : List Byte) (k : MemOp → List Byte → Decoded) :
    withMem 2#3 (le24 a ++ t) k = k (.abs24 a) t := with24_le24 a t fun a t => k (.abs24 a) t

/-- The addressing modes whose first byte has bit 6 set. -/
theorem decode_memFirst (k : Option Size) (lo : BitVec 3) (t : List Byte)
    (h : lo = 3#3 → t.head? ≠ some 0x13#8) (hlo : lo ≠ 6#3 ∧ lo ≠ 7#3 := by decide) :
    decode (memFirst k (0b0#1 ++ lo) :: t) = withMem lo t fun m t => afterMem k m t := by
  obtain ⟨h6, h7⟩ := hlo
  rw [memFirst_eq, decode_classByte fun ht hb => ?ldar, decodeClass_mode _ h6 h7, Size.ofCode_memClassCode]
  case ldar =>
    obtain ⟨-, -, -, h3⟩ := (classByte_eq_ldar ..).mp hb
    exact h h3 ht

theorem decode_memBytes {k : Option Size} {m : MemOp} (h : m.wellFormed = true) (bs : List Byte) :
    decode (memBytes k m ++ bs) = afterMem k m bs := by
  cases m with
  | ind R =>
    change decode (classByte false (memClassCode k) false R :: bs) = _
    rw [decode_classByte (by simp [classByte_eq_ldar]), decodeClass_ind, Size.ofCode_memClassCode]
  | indD8 R d =>
    change decode (classByte false (memClassCode k) true R :: d :: bs) = _
    rw [decode_classByte (by simp [classByte_eq_ldar]), decodeClass_indD8, Size.ofCode_memClassCode,
      with8_cons]
  | abs8 a => exact decode_memFirst k 0#3 (a :: bs) nofun
  | abs16 a => exact (decode_memFirst k 1#3 (le16 a ++ bs) nofun).trans (withMem_abs16 a bs _)
  | abs24 a => exact (decode_memFirst k 2#3 (le24 a ++ bs) nofun).trans (withMem_abs24 a bs _)
  | reg c =>
    exact (decode_memFirst k 3#3 _ (by simp [modeByte_ne])).trans (registerModes_reg c bs _)
  | regD16 c d =>
    exact (decode_memFirst k 3#3 _ (by simp [modeByte_ne])).trans (registerModes_regD16 c d bs _)
  | regR8 c e => exact (decode_memFirst k 3#3 _ (by simp)).trans (registerModes_regR8 c e bs _)
  | regR16 c e => exact (decode_memFirst k 3#3 _ (by simp)).trans (registerModes_regR16 c h bs _)
  | preDec c t => exact (decode_memFirst k 4#3 _ nofun).trans (stepped_cons _ c t bs _)
  | postInc c t => exact (decode_memFirst k 5#3 _ nofun).trans (stepped_cons _ c t bs _)

/-! ### Rows: an opcode byte after its prefixes, and the field after it

Here `p` are the bytes of prefixes (none before a one-byte opcode), and `d` is what decodes the bytes after it. -/

section
variable {p : List Byte} {d : List Byte → Decoded} {op : Byte} {rest : List Byte} {i : Instr} {α : Type}
  {f : α → Instr} {v : α} {fetch : List Byte → (α → List Byte → Decoded) → Decoded}

theorem decode_row (hp : ∀ bs, decode (p ++ bs) = d bs) (op : Byte) (t rest : List Byte) :
    decode (p ++ op :: t ++ rest) = d (op :: (t ++ rest)) := by
  rw [List.append_assoc, hp]
  rfl

/-- A row with a field of one byte. -/
theorem decode_rowByte {b : Byte} (hfetch : ∀ t k, fetch (b :: t) k = k v t)
    (hp : ∀ bs, decode (p ++ bs) = d bs) (hrow : ∀ t, d (op :: t) = fetch t fun v t => .ok (f v, t))
    (hi : f v = i) : decode (p ++ [op, b] ++ rest) = .ok (i, rest) := by
  rw [decode_row hp, hrow, ← hi]
  exact hfetch rest _

/-- A row with a field of several bytes. -/
theorem decode_rowField {bytes : α → List Byte} (hfetch : ∀ v t k, fetch (bytes v ++ t) k = k v t)
    (hp : ∀ bs, decode (p ++ bs) = d bs) (hrow : ∀ t, d (op :: t) = fetch t fun v t => .ok (f v, t))
    (hi : f v = i) : decode (p ++ [op] ++ bytes v ++ rest) = .ok (i, rest) := by
  rw [List.append_assoc _ [op], List.singleton_append, decode_row hp, hrow, hfetch, hi]

end

theorem legalIf_of {ok : Bool} (h : ok = true) (i : Instr) (bs : List Byte) : legalIf ok i bs = .ok (i, bs) :=
  if_pos h

/-! ### The condition code in an opcode byte (30_encoding.md R118) -/

theorem decodeReg_scc (z : Size) (r : RegOp) (cc : Cond) (t : List Byte) :
    decodeReg z r (0b0111#4 ++ cc.code) t = legalIf z.isBW (.scc z cc r) t := by cases cc <;> rfl

theorem decodeDst_jp (m : MemOp) (cc : Cond) (t : List Byte) :
    decodeDst m (0b1101#4 ++ cc.code) t = .ok (.jpMem cc m, t) := by cases cc <;> rfl

theorem decodeDst_call (m : MemOp) (cc : Cond) (t : List Byte) :
    decodeDst m (0b1110#4 ++ cc.code) t = .ok (.callMem cc m, t) := by cases cc <;> rfl

theorem decode_retCc (cc : Cond) (t : List Byte) :
    decode (0xb0#8 :: (0b1111#4 ++ cc.code) :: t) = .ok (.retCc cc, t) := by cases cc <;> rfl

theorem decode_jr (cc : Cond) (t : List Byte) :
    decode ((0b0110#4 ++ cc.code) :: t) = with8 t fun d t => .ok (.jr cc d, t) := by cases cc <;> rfl

theorem decode_jrl (cc : Cond) (t : List Byte) :
    decode ((0b0111#4 ++ cc.code) :: t) = with16 t fun d t => .ok (.jrl cc d, t) := by cases cc <;> rfl

theorem decode_oneByte (hi : BitVec 5) (lo : BitVec 3) (h : hi.getLsbD 4 = false) (t : List Byte) :
    decode ((hi ++ lo) :: t) = decodeOneByte (hi ++ lo) t := by
  have h7 : (hi ++ lo : Byte).getLsbD 7 = false := by
    revert hi lo
    decide
  simp only [decode]
  exact if_pos h7

theorem decode_block (z : Size) (R : BitVec 3) (op : Byte) (t : List Byte) :
    decode (blockFirst z R :: op :: t) = decodeSrc z (.ind R) op t :=
  decode_memBytes (k := some z) (m := .ind R) rfl (op :: t)

theorem decode_swi (n : BitVec 3) (t : List Byte) : decode ((0b11111#5 ++ n) :: t) = .ok (.swi n, t) := by
  rw [show (0b11111#5 ++ n : Byte) = classByte true 0b11#2 true n by revert n; decide,
    decode_classByte (by simp [classByte_eq_ldar]), decodeClass_swi rfl]

/-- Every row is decoded back: by the way its bytes are made up, the row's check says that its prefixes name
a register or a location and that its opcode is listed at its size (30_encoding.md R121). -/
theorem decode_encode (i : Instr) (rest : List Byte) (hwf : i.wellFormed = true)
    (hlone : isLonePrefix i = false) : decode (encode i ++ rest) = .ok (i, rest) := by
  cases i
  -- One-byte opcodes (R104)
  case ei n =>
    have hn : n ≠ 7#3 := bne_iff_ne.mp hwf
    refine (if_neg (by simp [opcode_high])).trans ((if_neg (by rwa [opcode_low])).trans ?_)
    rw [opcode_low]
    rfl
  case ldf n =>
    refine (if_neg (by simp [extract_high])).trans ?_
    rw [extract_low]
    rfl
  case ldAbs8Imm | pushImm | di | nop | pushSr | popSr | halt | reti | incf | decf | ret | rcf | scf | ccf
      | zcf | pushA | popA | exFF | pushF | popF => rfl
  case ldwAbs8Imm a i => exact with16_le16 i rest fun i t => .ok (.ldwAbs8Imm a i, t)
  case pushwImm | retd | jpAbs16 | callAbs16 | calr =>
    exact decode_rowField with16_le16 (p := []) (fun _ => rfl) (fun _ => rfl) (by rfl)
  case jpAbs24 | callAbs24 =>
    exact decode_rowField with24_le24 (p := []) (fun _ => rfl) (fun _ => rfl) (by rfl)
  case pushRW R | pushRL R | popRW R | popRL R | ldRImmB R i =>
    refine (decode_oneByte _ R rfl _).trans ?_
    simp only [decodeOneByte, opcode_high, opcode_low]
    rfl
  case ldRImmW R i =>
    refine decode_rowField with16_le16 (p := []) (fun _ => rfl)
      (fun t => (decode_oneByte _ R rfl t).trans ?_) (by rfl)
    simp only [decodeOneByte, opcode_high, opcode_low]
  case ldRImmL R i =>
    refine decode_rowField with32_le32 (p := []) (fun _ => rfl)
      (fun t => (decode_oneByte _ R rfl t).trans ?_) (by rfl)
    simp only [decodeOneByte, opcode_high, opcode_low]
  case swi n => exact decode_swi n rest
  case jr cc d => exact decode_jr cc _
  case jrl cc d => exact decode_rowField with16_le16 (p := []) (fun _ => rfl) (decode_jrl cc) (by rfl)
  -- After a register's prefixes (R117)
  case pushr z r | popr z r | rlcAr z r | rrcAr z r | rlAr z r | rrAr z r | slaAr z r | sraAr z r | sllAr z r
      | srlAr z r | daa r | bs1f r | bs1b r | mirr r | unlk r | ldrImmB r i | addrImmB r i | adcrImmB r i
      | subrImmB r i | sbcrImmB r i | andrImmB r i | xorrImmB r i | orrImmB r i | cprImmB r i =>
    exact decode_row (decode_regBytes hwf) _ _ _
  case link r i | minc1 i r | minc2 i r | minc4 i r | mdec1 i r | mdec2 i r | mdec4 i r | ldrImmW r i
      | addrImmW r i | adcrImmW r i | subrImmW r i | sbcrImmW r i | andrImmW r i | xorrImmW r i | orrImmW r i
      | cprImmW r i =>
    exact decode_rowField with16_le16 (decode_regBytes hwf) (fun _ => rfl) (by rfl)
  case ldrImmL r i | addrImmL r i | adcrImmL r i | subrImmL r i | sbcrImmL r i | andrImmL r i | xorrImmL r i
      | orrImmL r i | cprImmL r i =>
    exact decode_rowField with32_le32 (decode_regBytes hwf) (fun _ => rfl) (by rfl)
  case cpl z r | neg z r | andcfAr z r | orcfAr z r | xorcfAr z r | ldcfAr z r | stcfAr z r | extz z r
      | exts z r | paa z r | mula r =>
    obtain ⟨hz, hr⟩ := Bool.and_eq_true_iff.mp hwf
    exact (decode_row (decode_regBytes hr) _ _ _).trans (legalIf_of hz _ _)
  case mulrImmB r i | mulsrImmB r i | divrImmB r i | divsrImmB r i | djnz z r d =>
    obtain ⟨hp, hr⟩ := Bool.and_eq_true_iff.mp hwf
    exact (decode_row (decode_regBytes hr) _ _ _).trans (if_pos hp)
  case mulrImmW r i | mulsrImmW r i | divrImmW r i | divsrImmW r i =>
    obtain ⟨hp, hr⟩ := Bool.and_eq_true_iff.mp hwf
    exact decode_rowField with16_le16 (decode_regBytes hr) (fun _ => if_pos hp) (by rfl)
  case andcfNumr z n r | orcfNumr z n r | xorcfNumr z n r | ldcfNumr z n r | stcfNumr z n r | resNumr z n r
      | setNumr z n r | chgNumr z n r | bitNumr z n r | tsetNumr z n r =>
    obtain ⟨hz, hr⟩ := Bool.and_eq_true_iff.mp hwf
    exact decode_rowByte (withNum4_cons n) (decode_regBytes hr) (fun _ => if_pos hz) (by rfl)
  case rlcNumr z n r | rrcNumr z n r | rlNumr z n r | rrNumr z n r | slaNumr z n r | sraNumr z n r
      | sllNumr z n r | srlNumr z n r =>
    exact decode_rowByte (withNum4_cons n) (decode_regBytes hwf) (fun _ => rfl) (by rfl)
  case ldcCrr z k r | ldcrCr z r k =>
    obtain ⟨hz, hr⟩ := Bool.and_eq_true_iff.mp hwf
    obtain rfl := beq_iff_eq.mp hz
    exact decode_rowByte (withControl_cons k) (decode_regBytes hr) (fun _ => rfl) (by rfl)
  case incNumr z n r | decNumr z n r | addRr z R r | adcRr z R r | subRr z R r | sbcRr z R r | andRr z R r
      | xorRr z R r | orRr z R r | cpRr z R r | ldRr z R r | ldrR z r R | ldrNum3 z r n =>
    refine (decode_row (decode_regBytes hwf) _ _ _).trans ?_
    simp only [afterReg, decodeReg, opcode_high, opcode_low, List.nil_append]
  case exRr z R r | cprNum3 z r n | mulRr z R r | mulsRr z R r | divRr z R r | divsRr z R r =>
    obtain ⟨hz, hr⟩ := Bool.and_eq_true_iff.mp hwf
    refine (decode_row (decode_regBytes hr) _ _ _).trans (.trans ?_ (legalIf_of hz _ _))
    simp only [afterReg, decodeReg, opcode_high, opcode_low, List.nil_append]
  case scc z cc r =>
    obtain ⟨hz, hr⟩ := Bool.and_eq_true_iff.mp hwf
    exact (decode_row (decode_regBytes hr) _ _ _).trans ((decodeReg_scc ..).trans (legalIf_of hz _ _))
  -- After the prefixes of a memory source (R119) or destination (R120)
  case rld m | rrd m | addMemImmB m i | adcMemImmB m i | subMemImmB m i | sbcMemImmB m i | andMemImmB m i
      | xorMemImmB m i | orMemImmB m i | cpMemImmB m i | ldMemImm m i | popMem m | popwMem m | andcfAMem m
      | orcfAMem m | xorcfAMem m | ldcfAMem m | stcfAMem m =>
    exact decode_row (decode_memBytes hwf) _ _ _
  case addMemImmW m i | adcMemImmW m i | subMemImmW m i | sbcMemImmW m i | andMemImmW m i | xorMemImmW m i
      | orMemImmW m i | cpMemImmW m i | ldwMemImm m i | ldMemAbs16 m a | ldwMemAbs16 m a =>
    exact decode_rowField with16_le16 (decode_memBytes hwf) (fun _ => rfl) (by rfl)
  case ldAbs16Mem z a m =>
    obtain ⟨hz, hm⟩ := Bool.and_eq_true_iff.mp hwf
    exact decode_rowField with16_le16 (decode_memBytes hm) (fun _ => if_pos hz) (by rfl)
  case pushMem z m | rlcMem z m | rrcMem z m | rlMem z m | rrMem z m | slaMem z m | sraMem z m | sllMem z m
      | srlMem z m =>
    obtain ⟨hz, hm⟩ := Bool.and_eq_true_iff.mp hwf
    exact (decode_row (decode_memBytes hm) _ _ _).trans (legalIf_of hz _ _)
  case ldiDeHl z | ldirDeHl z | lddDeHl z | lddrDeHl z | ldiIxIy z | ldirIxIy z | lddIxIy z | lddrIxIy z
      | cpi z R | cpir z R | cpd z R | cpdr z R =>
    exact (decode_block z _ _ _).trans (legalIf_of hwf _ _)
  case ldRMem z R m | addRMem z R m | addMemR z m R | adcRMem z R m | adcMemR z m R | subRMem z R m
      | subMemR z m R | sbcRMem z R m | sbcMemR z m R | andRMem z R m | andMemR z m R | xorRMem z R m
      | xorMemR z m R | orRMem z R m | orMemR z m R | cpRMem z R m | cpMemR z m R =>
    refine (decode_row (decode_memBytes hwf) _ _ _).trans ?_
    simp only [afterMem, decodeSrc, opcode_high, opcode_low, List.nil_append]
  case exMemR z m R | incNumMem z n m | decNumMem z n m | mulRMem z R m | mulsRMem z R m | divRMem z R m
      | divsRMem z R m =>
    obtain ⟨hz, hm⟩ := Bool.and_eq_true_iff.mp hwf
    refine (decode_row (decode_memBytes hm) _ _ _).trans (.trans ?_ (legalIf_of hz _ _))
    simp only [afterMem, decodeSrc, opcode_high, opcode_low, List.nil_append]
  case ldaW R m | ldaL R m =>
    refine (decode_row (decode_memBytes hwf) _ _ _).trans ?_
    simp only [afterMem, decodeDst, opcode_high, opcode_low, List.nil_append]
    rfl
  case ldMemRB m R | ldMemRW m R | ldMemRL m R | andcfNumMem n m | orcfNumMem n m
      | xorcfNumMem n m | ldcfNumMem n m | stcfNumMem n m | tsetNumMem n m | resNumMem n m | setNumMem n m
      | chgNumMem n m | bitNumMem n m =>
    refine (decode_row (decode_memBytes hwf) _ _ _).trans ?_
    simp only [afterMem, decodeDst, opcode_high, opcode_low, List.nil_append]
  case jpMem cc m => exact (decode_row (decode_memBytes hwf) _ _ _).trans (decodeDst_jp m cc rest)
  case callMem cc m => exact (decode_row (decode_memBytes hwf) _ _ _).trans (decodeDst_call m cc rest)
  case retCc cc => exact decode_retCc cc rest
  case ldarW R d | ldarL R d =>
    refine (decode_ldar d _ rest).trans ?_
    simp only [decodeLdar, with16_le16, with8, opcode_high, opcode_low]
  case prefixRegShort | prefixRegExt | prefixMemInd | prefixMemIndD8 | prefixMemAbs8 | prefixMemAbs16
      | prefixMemAbs24 | prefixMemReg | prefixMemRegD16 | prefixMemRegR8 | prefixMemRegR16 | prefixMemPreDec
      | prefixMemPostInc => cases hlone
  -- What is left are the undefined and dummy codes (R122, R123).
  all_goals rfl

/-! ### Codes of fields, from the code to what it names -/

theorem exists_opcode (b : Byte) : ∃ (hi : BitVec 5) (lo : BitVec 3), b = hi ++ lo :=
  ⟨_, _, (BitVec.extractLsb'_append_extractLsb' (w := 5) (len := 3) (x := b)).symm⟩

theorem exists_nibbles (b : Byte) : ∃ hi lo : BitVec 4, b = hi ++ lo :=
  ⟨_, _, (BitVec.extractLsb'_append_extractLsb' (w := 4) (len := 4) (x := b)).symm⟩

theorem exists_modeByte (b : Byte) : ∃ (hi : BitVec 6) (lo : BitVec 2), b = hi ++ lo :=
  ⟨_, _, (BitVec.extractLsb'_append_extractLsb' (w := 6) (len := 2) (x := b)).symm⟩

/-- The bytes above the lowest one. -/
theorem extract_above {n : Nat} (x : BitVec n) (b : Byte) (k : Nat) :
    (x ++ b).extractLsb' (k + 8) 8 = x.extractLsb' k 8 := by
  rw [BitVec.extractLsb'_append_eq_of_le (Nat.le_add_left 8 k), Nat.add_sub_cancel]

theorem extract_lowest {n : Nat} (x : BitVec n) (b : Byte) : (x ++ b).extractLsb' 0 8 = b :=
  BitVec.extractLsb'_append_eq_right

theorem le16_append (x b : Byte) : le16 (x ++ b) = [b, x] := by
  have h := extract_above x b 0
  rw [BitVec.extractLsb'_eq_self] at h
  exact congrArg₂ (fun u v => [u, v]) (extract_lowest x b) h

theorem le24_append (x : BitVec 16) (b : Byte) : le24 (x ++ b) = b :: le16 x :=
  congr (congrArg List.cons (extract_lowest x b))
    (congrArg₂ (fun u v => [u, v]) (extract_above x b 0) (extract_above x b 8))

theorem le32_append (x : BitVec 24) (b : Byte) : le32 (x ++ b) = b :: le24 x := by
  rw [le32, le24]
  exact congr (congrArg List.cons (extract_lowest x b)) (congr (congrArg List.cons (extract_above x b 0))
    (congrArg₂ (fun u v => [u, v]) (extract_above x b 8) (extract_above x b 16)))

theorem memClassCode_ofCode (zz : BitVec 2) : memClassCode (Size.ofCode zz) = zz := by
  revert zz
  decide

theorem Step.code_of_ofCode {c : BitVec 2} {t : Step} (h : Step.ofCode c = some t) : t.code = c := by
  revert c
  cases t <;> decide

theorem LongReg.code_of_ofCode {x : BitVec 6} {c : LongReg} (h : LongReg.ofCode x = some c) :
    c.code = x := by
  have hall : ∀ x, (LongReg.ofCode x).all (fun c => c.code = x) = true := by decide
  simpa [h] using hall x

theorem RegSel.code_of_ofCode {b : Byte} {c : RegSel} (h : RegSel.ofCode b = some c) : c.code = b := by
  obtain ⟨hi, lo, rfl⟩ := exists_modeByte b
  rw [RegSel.ofCode, extract_high, extract_low] at h
  obtain ⟨w, hw, rfl⟩ := Option.map_eq_some_iff.mp h
  rw [RegSel.code, LongReg.code_of_ofCode hw]

theorem ControlReg.code_of_ofCode {b : Byte} {k : ControlReg} (h : ControlReg.ofCode b = some k) :
    k.code = b := by
  have hall : ∀ b, (ControlReg.ofCode b).all (fun k => k.code = b) = true := by decide
  simpa [h] using hall b

/-- The eight values of the low three bits of an opcode. -/
theorem lowBits_cases {P : BitVec 3 → Prop} (h0 : P 0#3) (h1 : P 1#3) (h2 : P 2#3) (h3 : P 3#3)
    (h4 : P 4#3) (h5 : P 5#3) (h6 : P 6#3) (h7 : P 7#3) (lo : BitVec 3) : P lo := by
  have h : lo = 0#3 ∨ lo = 1#3 ∨ lo = 2#3 ∨ lo = 3#3 ∨ lo = 4#3 ∨ lo = 5#3 ∨ lo = 6#3 ∨ lo = 7#3 := by
    revert lo
    decide
  rcases h with rfl | rfl | rfl | rfl | rfl | rfl | rfl | rfl <;> assumption

/-! ### Rows of prefixes (log entry 16) -/

theorem exists_lone {i : Instr} (h : isLonePrefix i = true) :
    (∃ z r, i = loneReg z r) ∨ ∃ k m, i = loneMem k m := by
  cases i
  case prefixRegShort z R => exact .inl ⟨z, .short R, rfl⟩
  case prefixRegExt z c => exact .inl ⟨z, .ext c, rfl⟩
  case prefixMemInd k R => exact .inr ⟨k, .ind R, rfl⟩
  case prefixMemIndD8 k R d => exact .inr ⟨k, .indD8 R d, rfl⟩
  case prefixMemAbs8 k a => exact .inr ⟨k, .abs8 a, rfl⟩
  case prefixMemAbs16 k a => exact .inr ⟨k, .abs16 a, rfl⟩
  case prefixMemAbs24 k a => exact .inr ⟨k, .abs24 a, rfl⟩
  case prefixMemReg k c => exact .inr ⟨k, .reg c, rfl⟩
  case prefixMemRegD16 k c d => exact .inr ⟨k, .regD16 c d, rfl⟩
  case prefixMemRegR8 k c e => exact .inr ⟨k, .regR8 c e, rfl⟩
  case prefixMemRegR16 k c e => exact .inr ⟨k, .regR16 c e, rfl⟩
  case prefixMemPreDec k c t => exact .inr ⟨k, .preDec c t, rfl⟩
  case prefixMemPostInc k c t => exact .inr ⟨k, .postInc c t, rfl⟩
  all_goals cases h

theorem encode_loneReg (z : Size) (r : RegOp) : encode (loneReg z r) = regBytes z r := by cases r <;> rfl

theorem encode_loneMem (k : Option Size) (m : MemOp) : encode (loneMem k m) = memBytes k m := by
  cases m <;> rfl

theorem wellFormed_loneReg (z : Size) (r : RegOp) : (loneReg z r).wellFormed = r.alignedAt z := by
  cases r <;> rfl

theorem wellFormed_loneMem (k : Option Size) (m : MemOp) : (loneMem k m).wellFormed = m.wellFormed := by
  cases m <;> rfl

theorem exec_loneReg (z : Size) (r : RegOp) (s : State) :
    exec (loneReg z r) s = .fault .undefinedInstruction := by cases r <;> rfl

theorem exec_loneMem (k : Option Size) (m : MemOp) (s : State) :
    exec (loneMem k m) s = .fault .undefinedInstruction := by cases m <;> rfl

/-- A row of prefixes is shorter than what a fetch reads. -/
theorem length_encode_lone {i : Instr} (h : isLonePrefix i = true) : (encode i).length ≤ 4 := by
  rcases exists_lone h with ⟨z, r, rfl⟩ | ⟨k, m, rfl⟩
  · rw [encode_loneReg]
    exact (Laws.regBytes_length z r).2.trans (by decide)
  · rw [encode_loneMem]
    exact (Laws.memBytes_length k m).2

/-! ### What is decoded is its own encoding -/

/-- The row of an instruction: its bytes and its check; it is not a row of prefixes. -/
structure IsRow (i : Instr) (p : List Byte) (w : Bool) : Prop where
  encode_eq : encode i = p
  wellFormed_eq : i.wellFormed = w
  not_lone : isLonePrefix i = false

/-- What is decoded after the bytes `p` is, with them, its own encoding; a row of prefixes leaves nothing.
Undefined and dummy codes carry no operands, so nothing is said of them (30_encoding.md R122, R123). -/
def Reads (p bs : List Byte) (d : Decoded) : Prop :=
  ∀ i rest, d = .ok (i, rest) → i ∉ undefinedRows →
    p ++ bs = encode i ++ rest ∧ i.wellFormed = true ∧ (isLonePrefix i = true → rest = [])

namespace Reads
variable {p q bs : List Byte} {i : Instr} {z : Size} {r : RegOp} {m : MemOp} {w : Bool} {op : Byte}

theorem error (e : DecodeError) : Reads p bs (.error e) := fun _ _ h => by cases h

theorem illegal : Reads p bs illegal := error _

theorem ok (h : IsRow i p w) (hw : w = true) : Reads p bs (.ok (i, bs)) := fun _ _ e _ => by
  cases e
  exact ⟨by rw [h.encode_eq], h.wellFormed_eq.trans hw, by simp [h.not_lone]⟩

theorem undefined (h : i ∈ undefinedRows) : Reads p bs (.ok (i, bs)) := fun _ _ e hi => by
  cases e
  exact absurd h hi

theorem cons {b : Byte} {t : List Byte} {d : Decoded} (h : Reads (p ++ [b]) t d) : Reads p (b :: t) d := by
  simpa [Reads] using h

theorem ite {c : Prop} [Decidable c] {d d' : Decoded} (h : c → Reads p bs d) (h' : ¬c → Reads p bs d') :
    Reads p bs (if c then d else d') := by
  split
  · exact h ‹_›
  · exact h' ‹_›

theorem legalIf {ok : Bool} (h : ok = true → Reads p bs (.ok (i, bs))) : Reads p bs (legalIf ok i bs) :=
  ite h fun _ => illegal

/-! #### Fields: what is read joins the bytes before it -/

theorem with8 {k : Byte → List Byte → Decoded} (h : ∀ v t, Reads (p ++ (q ++ [v])) t (k v t)) :
    Reads (p ++ q) bs (with8 bs k) := by
  unfold Sys2Proof.with8
  split
  · exact cons (by simpa using h _ _)
  · exact error _

theorem with16 {k : BitVec 16 → List Byte → Decoded} (h : ∀ v t, Reads (p ++ le16 v) t (k v t)) :
    Reads p bs (with16 bs k) := by
  unfold Sys2Proof.with16
  split
  case h_1 b0 b1 t =>
    exact cons (cons (by simpa [le16_append] using h (b1 ++ b0) t))
  case h_2 => exact error _

theorem with24 {k : BitVec 24 → List Byte → Decoded} (h : ∀ v t, Reads (p ++ le24 v) t (k v t)) :
    Reads p bs (with24 bs k) := by
  unfold Sys2Proof.with24
  split
  case h_1 b0 b1 b2 t =>
    exact cons (cons (cons (by simpa [le24_append, le16_append] using h (b2 ++ b1 ++ b0) t)))
  case h_2 => exact error _

theorem with32 {k : BitVec 32 → List Byte → Decoded} (h : ∀ v t, Reads (p ++ le32 v) t (k v t)) :
    Reads p bs (with32 bs k) := by
  unfold Sys2Proof.with32
  split
  case h_1 b0 b1 b2 b3 t =>
    have hv := h (b3 ++ b2 ++ b1 ++ b0) t
    exact cons (cons (cons (cons (by simpa [le32_append, le24_append, le16_append] using hv))))
  case h_2 => exact error _

theorem withNum4 {k : BitVec 4 → List Byte → Decoded}
    (h : ∀ n t, Reads (p ++ (q ++ [0b0000#4 ++ n])) t (k n t)) :
    Reads (p ++ q) bs (withNum4 bs k) :=
  with8 fun v t => by
    obtain ⟨hi, lo, rfl⟩ := exists_nibbles v
    rw [nibble_high, nibble_low]
    refine ite (fun hz => ?_) fun _ => illegal
    subst hz
    exact h lo t

theorem withSel {k : RegSel → List Byte → Decoded} (h : ∀ c t, Reads (p ++ (q ++ [c.code])) t (k c t)) :
    Reads (p ++ q) bs (withSel bs k) :=
  with8 fun v t => by
    split
    · next c hc => exact RegSel.code_of_ofCode hc ▸ h c t
    · exact error _

theorem withSelAt {k : RegSel → List Byte → Decoded}
    (h : ∀ c t, c.alignedAt z = true → Reads (p ++ (q ++ [c.code])) t (k c t)) :
    Reads (p ++ q) bs (withSelAt z bs k) :=
  withSel fun c t => ite (h c t) fun _ => error _

theorem withControl {k : ControlReg → List Byte → Decoded}
    (h : ∀ c t, c.size = z → Reads (p ++ (q ++ [c.code])) t (k c t)) :
    Reads (p ++ q) bs (withControl z bs k) :=
  with8 fun v t => by
    split
    · next c hc => exact ite (fun hz => ControlReg.code_of_ofCode hc ▸ h c t hz) fun _ => error _
    · exact error _

end Reads

/-- A condition code in an opcode takes the lower four bits of the byte (30_encoding.md R118). -/
theorem condOpcode (hi : BitVec 5) (lo : BitVec 3) :
    hi.extractLsb' 1 4 ++ (Cond.ofCode ((hi ++ lo).extractLsb' 0 4)).code = hi ++ lo := by
  revert hi lo
  decide

section
variable {hi : BitVec 5} {lo : BitVec 3}

theorem isRow_scc (h : hi.extractLsb' 1 4 = 0b0111#4) (z : Size) (r : RegOp) :
    IsRow (.scc z (Cond.ofCode ((hi ++ lo).extractLsb' 0 4)) r) (regBytes z r ++ [hi ++ lo])
      (z.isBW && r.alignedAt z) :=
  ⟨congrArg (regBytes z r ++ [·]) (h ▸ condOpcode hi lo), rfl, rfl⟩

theorem isRow_jpMem (h : hi.extractLsb' 1 4 = 0b1101#4) (m : MemOp) :
    IsRow (.jpMem (Cond.ofCode ((hi ++ lo).extractLsb' 0 4)) m) (memBytes none m ++ [hi ++ lo])
      m.wellFormed :=
  ⟨congrArg (memBytes none m ++ [·]) (h ▸ condOpcode hi lo), rfl, rfl⟩

theorem isRow_callMem (h : hi.extractLsb' 1 4 = 0b1110#4) (m : MemOp) :
    IsRow (.callMem (Cond.ofCode ((hi ++ lo).extractLsb' 0 4)) m) (memBytes none m ++ [hi ++ lo])
      m.wellFormed :=
  ⟨congrArg (memBytes none m ++ [·]) (h ▸ condOpcode hi lo), rfl, rfl⟩

theorem isRow_retCc (h : hi.extractLsb' 1 4 = 0b1111#4) :
    IsRow (.retCc (Cond.ofCode ((hi ++ lo).extractLsb' 0 4))) (memBytes none (.ind 0#3) ++ [hi ++ lo]) true :=
  ⟨congrArg ([0xb0#8, ·]) (h ▸ condOpcode hi lo), rfl, rfl⟩

end

namespace Reads
variable {p q bs : List Byte} {i : Instr} {z : Size} {r : RegOp} {m : MemOp} {w : Bool} {op : Byte}

theorem legalRow {ok : Bool} (h : IsRow i p (ok && w)) (hw : w = true) :
    Reads p bs (Sys2Proof.legalIf ok i bs) :=
  legalIf fun hok => .ok h (Bool.and_eq_true_iff.mpr ⟨hok, hw⟩)

theorem num4BW {f : BitVec 4 → Instr} (h : ∀ n, IsRow (f n) (p ++ (q ++ [0b0000#4 ++ n])) (z.isBW && w))
    (hw : w = true) : Reads (p ++ q) bs (num4BW z bs f) :=
  ite (fun hz => withNum4 fun n _ => .ok (h n) (Bool.and_eq_true_iff.mpr ⟨hz, hw⟩)) fun _ => illegal

/-- A row that is listed at one size. -/
theorem regAt {z₀ : Size} (h : IsRow i (regBytes z₀ r ++ [op]) (r.alignedAt z₀)) (hr : r.alignedAt z = true) :
    Reads (regBytes z r ++ [op]) bs (Sys2Proof.legalIf (z == z₀) i bs) :=
  legalIf fun hz => by
    obtain rfl := beq_iff_eq.mp hz
    exact .ok h hr

theorem regAt16 {z₀ : Size} {f : BitVec 16 → Instr} (hr : r.alignedAt z = true)
    (h : ∀ v, IsRow (f v) (regBytes z₀ r ++ [op] ++ le16 v) (r.alignedAt z₀)) :
    Reads (regBytes z r ++ [op]) bs (word16At (z == z₀) bs f) :=
  ite (fun hz => by
    obtain rfl := beq_iff_eq.mp hz
    exact with16 fun v _ => .ok (h v) hr) fun _ => illegal

/-- The rows with an immediate, one for each size. -/
theorem regImmBySize {fb : BitVec 8 → Instr} {fw : BitVec 16 → Instr} {fl : BitVec 32 → Instr}
    (hr : r.alignedAt z = true)
    (hb : ∀ v, IsRow (fb v) (regBytes .byte r ++ [op, v]) (r.alignedAt .byte))
    (hw : ∀ v, IsRow (fw v) (regBytes .word r ++ [op] ++ le16 v) (r.alignedAt .word))
    (hl : ∀ v, IsRow (fl v) (regBytes .long r ++ [op] ++ le32 v) (r.alignedAt .long)) :
    Reads (regBytes z r ++ [op]) bs (immBySize z bs fb fw fl) := by
  cases z with
  | byte => exact with8 fun v _ => .ok (hb v) hr
  | word => exact with16 fun v _ => .ok (hw v) hr
  | long => exact with32 fun v _ => .ok (hl v) hr

theorem regPairImm {fb : BitVec 8 → Instr} {fw : BitVec 16 → Instr} (hr : r.alignedAt z = true)
    (hb : ∀ v, IsRow (fb v) (regBytes .byte r ++ [op, v]) (r.pairAt .byte && r.alignedAt .byte))
    (hw : ∀ v, IsRow (fw v) (regBytes .word r ++ [op] ++ le16 v) (r.pairAt .word && r.alignedAt .word)) :
    Reads (regBytes z r ++ [op]) bs (pairImm z r bs fb fw) :=
  ite (fun hp => by
    cases z with
    | byte => exact with8 fun v _ => .ok (hb v) (Bool.and_eq_true_iff.mpr ⟨hp, hr⟩)
    | word => exact with16 fun v _ => .ok (hw v) (Bool.and_eq_true_iff.mpr ⟨hp, hr⟩)
    | long => exact illegal) fun _ => illegal

theorem regImm (hr : r.alignedAt z = true) (lo : BitVec 3) :
    Reads (regBytes z r ++ [0b11001#5 ++ lo]) bs (decodeRegImm z r lo bs) := by
  induction lo using lowBits_cases
  all_goals
    exact regImmBySize hr (fun _ => ⟨rfl, rfl, rfl⟩) (fun _ => ⟨rfl, rfl, rfl⟩) fun _ => ⟨rfl, rfl, rfl⟩

theorem shiftNum (hr : r.alignedAt z = true) (lo : BitVec 3) :
    Reads (regBytes z r ++ [0b11101#5 ++ lo]) bs (decodeShiftNum z r lo bs) :=
  withNum4 fun n t => by
    induction lo using lowBits_cases
    all_goals exact .ok ⟨rfl, rfl, rfl⟩ hr

theorem shiftA (hr : r.alignedAt z = true) (lo : BitVec 3) :
    Reads (regBytes z r ++ [0b11111#5 ++ lo]) bs (decodeShiftA z r lo bs) := by
  induction lo using lowBits_cases
  all_goals exact .ok ⟨rfl, rfl, rfl⟩ hr

theorem regLow (hr : r.alignedAt z = true) (hi : BitVec 5) (lo : BitVec 3) :
    Reads (regBytes z r ++ [hi ++ lo]) bs (decodeRegLow z r hi lo bs) := by
  unfold decodeRegLow
  split
  · induction lo using lowBits_cases
    iterate 3 exact undefined (by decide)
    · exact regImmBySize hr (fun _ => ⟨rfl, rfl, rfl⟩) (fun _ => ⟨rfl, rfl, rfl⟩) fun _ => ⟨rfl, rfl, rfl⟩
    iterate 2 exact .ok ⟨rfl, rfl, rfl⟩ hr
    iterate 2 exact legalRow ⟨rfl, rfl, rfl⟩ hr
  · induction lo using lowBits_cases
    iterate 4 exact regPairImm hr (fun _ => ⟨rfl, rfl, rfl⟩) fun _ => ⟨rfl, rfl, rfl⟩
    · exact regAt16 hr fun _ => ⟨rfl, rfl, rfl⟩
    iterate 3 exact regAt ⟨rfl, rfl, rfl⟩ hr
  · induction lo using lowBits_cases
    · exact regAt ⟨rfl, rfl, rfl⟩ hr
    · exact undefined (by decide)
    iterate 3 exact legalRow ⟨rfl, rfl, rfl⟩ hr
    · exact undefined (by decide)
    · exact regAt ⟨rfl, rfl, rfl⟩ hr
    · exact undefined (by decide)
  · induction lo using lowBits_cases
    · exact undefined (by decide)
    · refine legalIf fun h => ?_
      obtain ⟨hz, hp⟩ := Bool.and_eq_true_iff.mp h
      obtain rfl := beq_iff_eq.mp hz
      exact .ok ⟨rfl, rfl, rfl⟩ (Bool.and_eq_true_iff.mpr ⟨hp, hr⟩)
    iterate 2 exact undefined (by decide)
    · refine ite (fun hz => with8 fun _ _ => ?_) fun _ => illegal
      exact .ok ⟨rfl, rfl, rfl⟩ (Bool.and_eq_true_iff.mpr ⟨hz, hr⟩)
    iterate 3 exact undefined (by decide)
  · induction lo using lowBits_cases
    iterate 5 exact num4BW (fun _ => ⟨rfl, rfl, rfl⟩) hr
    iterate 3 exact undefined (by decide)
  · induction lo using lowBits_cases
    iterate 5 exact legalRow ⟨rfl, rfl, rfl⟩ hr
    · exact undefined (by decide)
    iterate 2
      refine withControl fun _ _ hk => ?_
      exact .ok ⟨rfl, rfl, rfl⟩ (Bool.and_eq_true_iff.mpr ⟨beq_iff_eq.mpr hk, hr⟩)
  · induction lo using lowBits_cases
    iterate 5 exact num4BW (fun _ => ⟨rfl, rfl, rfl⟩) hr
    iterate 3 exact undefined (by decide)
  · induction lo using lowBits_cases
    iterate 3 exact regAt16 hr fun _ => ⟨rfl, rfl, rfl⟩
    · exact undefined (by decide)
    iterate 3 exact regAt16 hr fun _ => ⟨rfl, rfl, rfl⟩
    · exact undefined (by decide)
  · exact illegal

/-- The second opcode byte after a register's prefixes (30_encoding.md R117). -/
theorem reg (hr : r.alignedAt z = true) (op : Byte) :
    Reads (regBytes z r ++ [op]) bs (decodeReg z r op bs) := by
  obtain ⟨hi, lo, rfl⟩ := exists_opcode op
  simp only [decodeReg, opcode_high, opcode_low]
  split
  iterate 4 exact legalIf fun h => .ok ⟨rfl, rfl, rfl⟩ (Bool.and_eq_true_iff.mpr ⟨h, hr⟩)
  iterate 2 exact .ok ⟨rfl, rfl, rfl⟩ hr
  iterate 2 exact legalRow (isRow_scc rfl z r) hr
  iterate 7 exact .ok ⟨rfl, rfl, rfl⟩ hr
  · exact legalRow ⟨rfl, rfl, rfl⟩ hr
  · exact .ok ⟨rfl, rfl, rfl⟩ hr
  · exact regImm hr lo
  · exact .ok ⟨rfl, rfl, rfl⟩ hr
  · exact legalRow ⟨rfl, rfl, rfl⟩ hr
  · exact .ok ⟨rfl, rfl, rfl⟩ hr
  · exact shiftNum hr lo
  · exact .ok ⟨rfl, rfl, rfl⟩ hr
  · exact shiftA hr lo
  · exact regLow hr _ lo

/-! #### Second opcode bytes after the prefixes of a memory operand (30_encoding.md R119, R120) -/

theorem memImmBW {fb : BitVec 8 → Instr} {fw : BitVec 16 → Instr} (hm : m.wellFormed = true)
    (hb : ∀ v, IsRow (fb v) (memBytes (some .byte) m ++ [op, v]) m.wellFormed)
    (hw : ∀ v, IsRow (fw v) (memBytes (some .word) m ++ [op] ++ le16 v) m.wellFormed) :
    Reads (memBytes (some z) m ++ [op]) bs (immBW z bs fb fw) := by
  cases z with
  | byte => exact with8 fun v _ => .ok (hb v) hm
  | word => exact with16 fun v _ => .ok (hw v) hm
  | long => exact illegal

/-- The rows that are listed at byte size. -/
theorem memByte (h : IsRow i (memBytes (some .byte) m ++ [op]) m.wellFormed) (hm : m.wellFormed = true) :
    Reads (memBytes (some z) m ++ [op]) bs (Sys2Proof.legalIf (z == .byte) i bs) :=
  legalIf fun hz => by
    obtain rfl := beq_iff_eq.mp hz
    exact .ok h hm

theorem blockTransfer {i j : Instr} (hi : IsRow i [blockFirst z 3#3, op] z.isBW)
    (hj : IsRow j [blockFirst z 5#3, op] z.isBW) :
    Reads (memBytes (some z) m ++ [op]) bs (blockTransfer z m i j bs) := by
  cases m with
  | ind R =>
    refine ite (fun hR => ?_) fun _ => ite (fun hR => ?_) fun _ => illegal
    · subst hR
      exact legalIf (.ok hi)
    · subst hR
      exact legalIf (.ok hj)
  | _ => exact illegal

theorem blockSearch {f : BitVec 3 → Instr} (h : ∀ R, IsRow (f R) [blockFirst z R, op] z.isBW) :
    Reads (memBytes (some z) m ++ [op]) bs (blockSearch z m f bs) := by
  cases m with
  | ind R => exact legalIf (.ok (h R))
  | _ => exact illegal

theorem memImm (hm : m.wellFormed = true) (lo : BitVec 3) :
    Reads (memBytes (some z) m ++ [0b00111#5 ++ lo]) bs (decodeMemImm z m lo bs) := by
  induction lo using lowBits_cases
  all_goals exact memImmBW hm (fun _ => ⟨rfl, rfl, rfl⟩) fun _ => ⟨rfl, rfl, rfl⟩

theorem shiftMem (hm : m.wellFormed = true) (lo : BitVec 3) :
    Reads (memBytes (some z) m ++ [0b01111#5 ++ lo]) bs (decodeShiftMem z m lo bs) := by
  induction lo using lowBits_cases
  all_goals exact legalRow ⟨rfl, rfl, rfl⟩ hm

theorem srcLow (hm : m.wellFormed = true) (hi : BitVec 5) (lo : BitVec 3) :
    Reads (memBytes (some z) m ++ [hi ++ lo]) bs (decodeSrcLow z m hi lo bs) := by
  unfold decodeSrcLow
  split
  · induction lo using lowBits_cases
    iterate 4 exact undefined (by decide)
    · exact legalRow ⟨rfl, rfl, rfl⟩ hm
    · exact undefined (by decide)
    iterate 2 exact memByte ⟨rfl, rfl, rfl⟩ hm
  · exact undefined (by decide)
  · induction lo using lowBits_cases
    iterate 4 exact blockTransfer ⟨rfl, rfl, rfl⟩ ⟨rfl, rfl, rfl⟩
    iterate 4 exact blockSearch fun _ => ⟨rfl, rfl, rfl⟩
  · induction lo using lowBits_cases
    · exact undefined (by decide)
    · refine ite (fun hz => with16 fun _ _ => ?_) fun _ => illegal
      exact .ok ⟨rfl, rfl, rfl⟩ (Bool.and_eq_true_iff.mpr ⟨hz, hm⟩)
    iterate 6 exact undefined (by decide)
  · exact illegal

theorem src (hm : m.wellFormed = true) (op : Byte) :
    Reads (memBytes (some z) m ++ [op]) bs (decodeSrc z m op bs) := by
  obtain ⟨hi, lo, rfl⟩ := exists_opcode op
  simp only [decodeSrc, opcode_high, opcode_low]
  split
  · exact .ok ⟨rfl, rfl, rfl⟩ hm
  · exact undefined (by decide)
  · exact legalRow ⟨rfl, rfl, rfl⟩ hm
  · exact memImm hm lo
  iterate 4 exact legalIf fun h => .ok ⟨rfl, rfl, rfl⟩ (Bool.and_eq_true_iff.mpr ⟨h, hm⟩)
  iterate 2 exact legalRow ⟨rfl, rfl, rfl⟩ hm
  · exact undefined (by decide)
  · exact shiftMem hm lo
  iterate 16 exact .ok ⟨rfl, rfl, rfl⟩ hm
  · exact srcLow hm _ lo

theorem dstLow (hm : m.wellFormed = true) (hi : BitVec 5) (lo : BitVec 3) :
    Reads (memBytes none m ++ [hi ++ lo]) bs (decodeDstLow m hi lo bs) := by
  unfold decodeDstLow
  split
  · induction lo using lowBits_cases
    · exact with8 fun _ _ => .ok ⟨rfl, rfl, rfl⟩ hm
    · exact undefined (by decide)
    · exact with16 fun _ _ => .ok ⟨rfl, rfl, rfl⟩ hm
    · exact undefined (by decide)
    · exact .ok ⟨rfl, rfl, rfl⟩ hm
    · exact undefined (by decide)
    · exact .ok ⟨rfl, rfl, rfl⟩ hm
    · exact undefined (by decide)
  · exact undefined (by decide)
  · induction lo using lowBits_cases
    iterate 4 exact undefined (by decide)
    · exact with16 fun _ _ => .ok ⟨rfl, rfl, rfl⟩ hm
    · exact undefined (by decide)
    · exact with16 fun _ _ => .ok ⟨rfl, rfl, rfl⟩ hm
    · exact undefined (by decide)
  · exact undefined (by decide)
  · exact .ok ⟨rfl, rfl, rfl⟩ hm
  · induction lo using lowBits_cases
    iterate 5 exact .ok ⟨rfl, rfl, rfl⟩ hm
    iterate 3 exact undefined (by decide)
  · exact .ok ⟨rfl, rfl, rfl⟩ hm
  · exact undefined (by decide)
  · exact illegal

theorem dst (hm : m.wellFormed = true) (op : Byte) :
    Reads (memBytes none m ++ [op]) bs (decodeDst m op bs) := by
  obtain ⟨hi, lo, rfl⟩ := exists_opcode op
  simp only [decodeDst, opcode_high, opcode_low]
  split
  · exact .ok ⟨rfl, rfl, rfl⟩ hm
  · exact undefined (by decide)
  · exact .ok ⟨rfl, rfl, rfl⟩ hm
  · exact undefined (by decide)
  · exact .ok ⟨rfl, rfl, rfl⟩ hm
  iterate 3 exact undefined (by decide)
  iterate 10 exact .ok ⟨rfl, rfl, rfl⟩ hm
  iterate 2 exact .ok (isRow_jpMem rfl m) hm
  iterate 2 exact .ok (isRow_callMem rfl m) hm
  iterate 2
    refine legalIf fun h => ?_
    obtain rfl := beq_iff_eq.mp h
    exact .ok (isRow_retCc rfl) rfl
  · exact dstLow hm _ lo

/-! #### Prefixes -/

theorem afterReg (hr : r.alignedAt z = true) : Reads (regBytes z r) bs (afterReg z r bs) := by
  cases bs with
  | nil =>
    intro i rest e _
    cases e
    exact ⟨by rw [encode_loneReg], (wellFormed_loneReg z r).trans hr, fun _ => rfl⟩
  | cons op t => exact cons (reg hr op)

theorem afterMem {k : Option Size} (hm : m.wellFormed = true) :
    Reads (memBytes k m) bs (afterMem k m bs) := by
  cases bs with
  | nil =>
    intro i rest e _
    cases e
    exact ⟨by rw [encode_loneMem], (wellFormed_loneMem k m).trans hm, fun _ => rfl⟩
  | cons op t =>
    cases k with
    | some z => exact cons (src hm op)
    | none => exact cons (dst hm op)

/-! #### Addressing bytes and the first byte -/

section
variable {k : Option Size} {f : MemOp → List Byte → Decoded}

theorem stepped {g : LongReg → Step → MemOp} {b : Byte}
    (h : ∀ c t bs, Reads [b, c.code ++ t.code] bs (f (g c t) bs)) : Reads [b] bs (stepped g bs f) :=
  with8 (p := []) fun v t => by
    obtain ⟨hi, lo, rfl⟩ := exists_modeByte v
    rw [extract_high, extract_low]
    split
    · next c s hc hs =>
      rw [← LongReg.code_of_ofCode hc, ← Step.code_of_ofCode hs]
      exact h c s t
    · exact error _
    · exact illegal

/-- A code byte that names a 32-bit register. -/
theorem withSelAt_long {g : RegSel → List Byte → Decoded}
    (h : ∀ c t, Reads (p ++ (q ++ [c.code ++ 0b00#2])) t (g ⟨c, 0b00#2⟩ t)) :
    Reads (p ++ q) bs (Sys2Proof.withSelAt .long bs g) :=
  withSelAt fun ⟨c, part⟩ t hc => by
    obtain rfl : part = 0b00#2 := beq_iff_eq.mp hc
    exact h c t

theorem registerModes (h : ∀ m t, m.wellFormed = true → Reads (memBytes k m) t (f m t)) :
    Reads [memFirst k 0b0011#4] bs (registerModes bs f) :=
  with8 (p := []) fun v t => by
    refine ite (fun hv => ?regR8) fun _ => ite (fun hv => ?regR16) fun _ => ?rest
    case regR8 =>
      subst hv
      exact withSelAt_long (p := []) fun c t => withSel (p := []) fun e t => h (.regR8 c e) t rfl
    case regR16 =>
      subst hv
      exact withSelAt_long (p := []) fun c t => withSelAt (p := []) fun e t he => h (.regR16 c e) t he
    case rest =>
      obtain ⟨hi, lo, rfl⟩ := exists_modeByte v
      rw [extract_high, extract_low]
      split
      · next c hc _ _ => exact LongReg.code_of_ofCode hc ▸ h (.reg c) t rfl
      · next c hc _ _ => exact LongReg.code_of_ofCode hc ▸ with16 fun d t => h (.regD16 c d) t rfl
      · exact error _
      · exact error _
      · exact illegal

theorem withMem {lo : BitVec 3} (h6 : lo ≠ 6#3) (h7 : lo ≠ 7#3)
    (h : ∀ m t, m.wellFormed = true → Reads (memBytes k m) t (f m t)) :
    Reads [memFirst k (0b0#1 ++ lo)] bs (withMem lo bs f) := by
  induction lo using lowBits_cases
  · exact with8 (p := []) fun a t => h (.abs8 a) t rfl
  · exact with16 fun a t => h (.abs16 a) t rfl
  · exact with24 fun a t => h (.abs24 a) t rfl
  · exact registerModes h
  · exact stepped fun c s t => h (.preDec c s) t rfl
  · exact stepped fun c s t => h (.postInc c s) t rfl
  · exact absurd rfl h6
  · exact absurd rfl h7

end

theorem undefinedX6 (k : Option Size) : Reads p bs (.ok (undefinedX6 k, bs)) := by
  refine undefined ?_
  rcases k with _ | _ | _ | _ <;> decide

theorem ldar : Reads [0xf3#8, 0x13#8] bs (decodeLdar bs) :=
  with16 fun d t => with8 (p := [0xf3#8, 0x13#8]) fun op t => by
    obtain ⟨hi, lo, rfl⟩ := exists_opcode op
    rw [opcode_high, opcode_low]
    split
    · exact .ok ⟨rfl, rfl, rfl⟩ rfl
    · exact .ok ⟨rfl, rfl, rfl⟩ rfl
    · exact illegal

/-- A first byte of 80H or more. -/
theorem firstByte {b : Byte} (hb : b.getLsbD 7 = true) : Reads [b] bs (decodeClass b bs) := by
  obtain ⟨m, zz, q, lo, rfl⟩ := exists_classByte hb
  obtain ⟨k, rfl⟩ : ∃ k, zz = memClassCode k := ⟨_, (memClassCode_ofCode zz).symm⟩
  have hk := Size.ofCode_memClassCode k
  cases m <;> cases q
  case false.false =>
    rw [decodeClass_ind, hk]
    exact afterMem (m := .ind lo) rfl
  case false.true =>
    rw [decodeClass_indD8, hk]
    exact with8 (p := []) fun d t => afterMem (m := .indD8 lo d) rfl
  case true.true =>
    cases k with
    | some z =>
      rw [decodeClass_short hk]
      exact afterReg (r := .short lo) rfl
    | none =>
      rw [decodeClass_swi hk]
      exact .ok ⟨by revert lo; decide, rfl, rfl⟩ rfl
  case true.false =>
    by_cases h6 : lo = 6#3
    · subst h6
      rw [decodeClass_x6]
      exact undefinedX6 _
    by_cases h7 : lo = 7#3
    · subst h7
      cases k with
      | some z =>
        rw [decodeClass_ext hk, ← memFirst_eq]
        exact withSelAt (p := []) fun c t hc => afterReg (r := .ext c) hc
      | none =>
        rw [decodeClass_f7 hk]
        exact undefined (by decide)
    rw [decodeClass_mode _ h6 h7, hk, ← memFirst_eq]
    exact withMem h6 h7 fun m t hm => afterMem hm

end Reads

section
variable {hi : BitVec 5} {lo : BitVec 3}

theorem isRow_jr (h : hi.extractLsb' 1 4 = 0b0110#4) (d : BitVec 8) :
    IsRow (.jr (Cond.ofCode ((hi ++ lo).extractLsb' 0 4)) d) [hi ++ lo, d] true :=
  ⟨congrArg ([·, d]) (h ▸ condOpcode hi lo), rfl, rfl⟩

theorem isRow_jrl (h : hi.extractLsb' 1 4 = 0b0111#4) (d : BitVec 16) :
    IsRow (.jrl (Cond.ofCode ((hi ++ lo).extractLsb' 0 4)) d) ([hi ++ lo] ++ le16 d) true :=
  ⟨congrArg ([·] ++ le16 d) (h ▸ condOpcode hi lo), rfl, rfl⟩
end
namespace Reads
variable {p q bs : List Byte} {i : Instr} {z : Size} {r : RegOp} {m : MemOp} {w : Bool} {op : Byte}

/-- Rows whose check asks nothing. -/
theorem free (h : IsRow i p true) : Reads p bs (.ok (i, bs)) := ok h rfl

/-- `EI #3` and `DI` (44_cpu_control.md R341, R342). -/
theorem interruptMask : Reads [0x06#8] bs (Sys2Proof.with8 bs fun v t =>
    if v.extractLsb' 3 5 ≠ 0#5 then Sys2Proof.illegal
    else if v.extractLsb' 0 3 = 7#3 then .ok (.di, t)
    else .ok (.ei (v.extractLsb' 0 3), t)) :=
  with8 (p := []) fun v t => by
    obtain ⟨hi, lo, rfl⟩ := exists_opcode v
    rw [opcode_high, opcode_low]
    refine ite (fun _ => illegal) fun hz => ite (fun hlo => ?di) fun hlo => ?ei
    all_goals obtain rfl : hi = 0#5 := not_not.mp hz
    case di =>
      subst hlo
      exact free ⟨rfl, rfl, rfl⟩
    case ei => exact ok ⟨rfl, rfl, rfl⟩ (bne_iff_ne.mpr hlo)

/-- `LDF #2` (44_cpu_control.md R351). -/
theorem ldf : Reads [0x17#8] bs (Sys2Proof.with8 bs fun v t =>
    if v.extractLsb' 2 6 ≠ 0#6 then Sys2Proof.illegal else .ok (.ldf (v.extractLsb' 0 2), t)) :=
  with8 (p := []) fun v t => by
    obtain ⟨hi, lo, rfl⟩ := exists_modeByte v
    rw [extract_high, extract_low]
    refine ite (fun _ => illegal) fun hz => ?_
    obtain rfl : hi = 0#6 := not_not.mp hz
    exact free ⟨rfl, rfl, rfl⟩

theorem oneByte (b : Byte) : Reads [b] bs (decodeOneByte b bs) := by
  obtain ⟨hi, lo, rfl⟩ := exists_opcode b
  simp only [decodeOneByte, opcode_high, opcode_low]
  split
  · induction lo using lowBits_cases
    · exact free ⟨rfl, rfl, rfl⟩
    · exact undefined (by decide)
    iterate 2 exact free ⟨rfl, rfl, rfl⟩
    · exact undefined (by decide)
    · exact free ⟨rfl, rfl, rfl⟩
    · exact interruptMask
    · exact free ⟨rfl, rfl, rfl⟩
  · induction lo using lowBits_cases
    · exact with8 (p := []) fun a t => with8 (p := []) fun v t => free ⟨rfl, rfl, rfl⟩
    · exact with8 (p := []) fun v t => free ⟨rfl, rfl, rfl⟩
    · exact with8 (p := []) fun a t => with16 fun v t => free ⟨rfl, rfl, rfl⟩
    · exact with16 fun v t => free ⟨rfl, rfl, rfl⟩
    iterate 3 exact free ⟨rfl, rfl, rfl⟩
    · exact with16 fun v t => free ⟨rfl, rfl, rfl⟩
  · induction lo using lowBits_cases
    iterate 7 exact free ⟨rfl, rfl, rfl⟩
    · exact ldf
  · induction lo using lowBits_cases
    iterate 2 exact free ⟨rfl, rfl, rfl⟩
    · exact with16 fun v t => free ⟨rfl, rfl, rfl⟩
    · exact with24 fun v t => free ⟨rfl, rfl, rfl⟩
    · exact with16 fun v t => free ⟨rfl, rfl, rfl⟩
    · exact with24 fun v t => free ⟨rfl, rfl, rfl⟩
    · exact with16 fun v t => free ⟨rfl, rfl, rfl⟩
    · exact undefined (by decide)
  · exact with8 (p := []) fun v t => free ⟨rfl, rfl, rfl⟩
  · exact free ⟨rfl, rfl, rfl⟩
  · exact with16 fun v t => free ⟨rfl, rfl, rfl⟩
  · exact free ⟨rfl, rfl, rfl⟩
  · exact with32 fun v t => free ⟨rfl, rfl, rfl⟩
  · exact free ⟨rfl, rfl, rfl⟩
  · exact undefined (by decide)
  · exact free ⟨rfl, rfl, rfl⟩
  iterate 2 exact with8 (p := []) fun d t => free (isRow_jr rfl d)
  iterate 2 exact with16 fun d t => free (isRow_jrl rfl d)
  · exact illegal

end Reads

theorem reads_decode (bs : List Byte) : Reads [] bs (decode bs) := by
  unfold decode
  split
  · exact .error _
  · next b t =>
    refine .cons (.ite (fun _ => .oneByte b) fun hb => ?_)
    split
    · exact .cons .ldar
    · exact .firstByte (by simpa using hb)

/-- Prefixes take at most 4 bytes, and what follows them fills these up to 7 (30_encoding.md R100). -/
theorem encode_length_le (i : Instr) : (encode i).length ≤ 7 := by
  have hreg (z r) := (Laws.regBytes_length z r).2
  have hmem (k m) := (Laws.memBytes_length k m).2
  cases i
  all_goals
    simp only [encode, le16, le24, le32, List.length_append, List.length_cons, List.length_nil]
    grind

end Sys2Proof

namespace Sys2Proof.Machine

/-- Settles O1, row by row. -/
theorem decodeOfEncode : Obligations.DecodeOfEncode :=
  fun i rest hwf hlone => decode_encode i rest hwf hlone

/-- Settles O2: what is decoded is its own encoding, which takes a byte and no more than seven. -/
theorem encodeOfDecode : Obligations.EncodeOfDecode := by
  intro bs rest i hd hi
  obtain ⟨hbs, hwf, -⟩ := reads_decode bs i rest hd hi
  obtain rfl : bs = encode i ++ rest := hbs
  have hpos := length_lt_of_decode hd
  rw [List.length_append] at hpos
  exact ⟨rfl, hwf, by omega, encode_length_le i⟩

/-! ### Prefixes alone (log entry 16) -/

theorem isLonePrefix_undefined : ∀ i ∈ undefinedRows, isLonePrefix i = false := by decide

/-- A fetch reads seven bytes, so it reads on after prefixes (30_encoding.md R101). -/
theorem State.fetchAt_not_lone {s : State} {a : Addr} {i : Instr} {len : Nat}
    (h : s.fetchAt a = .ok (i, len)) : isLonePrefix i = false := by
  by_contra hi
  have hlone := Bool.eq_true_of_not_eq_false hi
  obtain ⟨rest, hd, -⟩ := State.fetchAt_ok.mp h
  obtain ⟨hbs, -, hrest⟩ := reads_decode _ i rest hd fun hu => hi (isLonePrefix_undefined i hu)
  have hlen := congrArg List.length hbs
  rw [hrest hlone, List.nil_append, List.append_nil, Bus.length_bytesAt] at hlen
  have := length_encode_lone hlone
  simp only [Config.maxLength] at hlen
  omega

/-- Settles O3: the row is what nothing follows, and in a fetch something does. -/
theorem lonePrefixFaults : Obligations.LonePrefixFaults := by
  refine fun i hi => ⟨fun hwf => ?_, fun s => ?_, fun s a len h => ?_⟩
  · rcases exists_lone hi with ⟨z, r, rfl⟩ | ⟨k, m, rfl⟩
    · rw [wellFormed_loneReg] at hwf
      rw [encode_loneReg]
      exact (congrArg decode (List.append_nil _)).symm.trans (decode_regBytes hwf [])
    · rw [wellFormed_loneMem] at hwf
      rw [encode_loneMem]
      exact (congrArg decode (List.append_nil _)).symm.trans (decode_memBytes hwf [])
  · rcases exists_lone hi with ⟨z, r, rfl⟩ | ⟨k, m, rfl⟩
    · exact exec_loneReg z r s
    · exact exec_loneMem k m s
  · rw [State.fetchAt_not_lone h] at hi
    cases hi

/-! ### Undefined and dummy codes (log entry 17) -/

theorem exec_undefined {i : Instr} (h : i ∈ undefinedRows) (s : State) :
    exec i s = .fault .undefinedInstruction := by
  fin_cases h <;> rfl

theorem State.runInstr_of_fault {s : State} {i : Instr} {f : Fault} (h : exec i s = .fault f) (start : Addr)
    (len : Nat) : s.runInstr i start len = .fault f := by
  simp only [State.runInstr, h]

/-- Bytes that do not decode end the run (00_scope.md R9). -/
theorem State.runNext_of_fetch_error {s : State} {e : DecodeError} (hr : s.repeating = none)
    (hf : s.fetchAt s.pc = .error e) : s.runNext = .fault (decodeFault e) := by
  simp [State.runNext, hr, hf]

theorem step_of_fetch_error {s s' : State} {e : DecodeError} (hg : s.sample = .goOn s')
    (hh : s.halted = false) (hr : s.repeating = none) (hf : s.fetchAt s.pc = .error e) :
    step s = .fault (decodeFault e) := by
  have hu := State.unsampled_of_not_repeating hr
  obtain rfl := State.sample_goOn hg
  rw [step_of_goOn hu hg hh]
  exact State.runNext_of_fetch_error (s := { s with inputs := s.inputs.tail }) hr hf

theorem decode_undefinedFirst {b : Byte} (h : b ∈ [0x01#8, 0x04#8, 0x1F#8, 0x50#8, 0x51#8, 0x52#8, 0x53#8,
    0x54#8, 0x55#8, 0x56#8, 0x57#8, 0xC6#8, 0xD6#8, 0xE6#8, 0xF6#8, 0xF7#8]) (rest : List Byte) :
    ∃ i ∈ undefinedRows, decode (b :: rest) = .ok (i, rest) := by
  fin_cases h
  all_goals
    refine ⟨_, ?_, rfl⟩
    decide

/-- Settles O4: a row of undefined codes has no meaning but the fault, and the step runs what it fetches. -/
theorem undefinedCodesFault : Obligations.UndefinedCodesFault := by
  refine ⟨fun i hi s => exec_undefined hi s, fun s s' i len hg hh hr hf hi => ?_,
    fun s s' e hg hh hr hf => step_of_fetch_error hg hh hr hf,
    fun _ hb => decode_undefinedFirst hb⟩
  rw [step_of_fetch hg hh hr hf]
  exact State.runInstr_of_fault (exec_undefined hi _) _ _

/-! ### Conditions after a comparison (30_encoding.md R118) -/

section
variable {z : Size} {a b v : BitVec z.bits} {f : Flags}

/-- The difference that `sub_n` gives without borrow is the machine's own. -/
theorem SubSpec.value_eq (h : SubSpec z a b false v f) : v = a - b := by
  obtain ⟨hv, -⟩ := h
  refine BitVec.eq_of_toNat_eq ?_
  have hb := b.isLt
  rw [← Int.natCast_inj, hv, BitVec.toNat_sub]
  simp only [Bool.toNat_false]
  push_cast [hb.le]
  rw [← Int.add_emod_left]
  congr 1
  ring

/-- V after a subtraction is two's-complement overflow (log entry 14). -/
theorem overflow_iff (a b : BitVec z.bits) :
    (a.msb ≠ b.msb ∧ (a - b).msb ≠ a.msb) ↔ a.ssubOverflow b = true := by
  rw [BitVec.ssubOverflow_eq]
  cases a.msb <;> cases b.msb <;> cases (a - b).msb <;> decide

theorem ssubOverflow_iff (a b : BitVec z.bits) : a.ssubOverflow b = true ↔
    a.toInt - b.toInt < -(2 ^ (z.bits - 1) : Int) ∨ (2 ^ (z.bits - 1) : Int) ≤ a.toInt - b.toInt := by
  simp [BitVec.ssubOverflow, or_comm]

/-- Without overflow the sign of the difference gives the signed order, with it the opposite. -/
theorem signed_lt_iff (a b : BitVec z.bits) :
    (xor (a - b).msb (a.ssubOverflow b) = true) ↔ a.toInt < b.toInt := by
  by_cases ho : a.ssubOverflow b = true
  · obtain ⟨hab, hd⟩ := (overflow_iff a b).mpr ho
    rw [ho, Bool.xor_true, Bool.eq_not_of_ne hd, Bool.not_not]
    simp only [BitVec.msb_eq_toInt] at hab ⊢
    grind
  · rw [Bool.eq_false_of_not_eq_true ho, Bool.xor_false, BitVec.msb_eq_toInt, decide_eq_true_iff,
      BitVec.toInt_sub_of_not_ssubOverflow ho]
    omega

/-- The flags of a subtraction without borrow, in terms of its operands, answer every condition
(42_arithmetic.md R221, 30_encoding.md R118). -/
theorem compareSays_of_subSpec (h : SubSpec z a b false v f) : CompareSays z a b f := by
  obtain rfl := h.value_eq
  obtain ⟨-, ⟨hs, hz⟩, -, hv, -, hc⟩ := h
  have hv : f.v = a.ssubOverflow b := Bool.eq_iff_iff.mpr (hv.trans (overflow_iff a b))
  have hlt : xor f.s f.v = true ↔ a.toInt < b.toInt := by rw [hs, hv, signed_lt_iff]
  have hov := hv ▸ ssubOverflow_iff a b
  have hmi : f.s = true ↔ (a - b).toInt < 0 := by rw [hs, BitVec.msb_eq_toInt, decide_eq_true_iff]
  have hz : f.z = true ↔ a = b := hz.trans sub_eq_zero
  have hc : f.c = true ↔ a.toNat < b.toNat := by
    rw [hc, Bool.toNat_false]
    omega
  have hnot (x : Bool) : (!x) = true ↔ ¬x = true := by simp
  have hint : a = b ↔ a.toInt = b.toInt := BitVec.toInt_inj.symm
  have hnat : a = b ↔ a.toNat = b.toNat := BitVec.toNat_inj.symm
  simp only [CompareSays, condHolds, hnot, Bool.or_eq_true, hlt, hov, hmi, hz, hc, true_and, and_true]
  refine ⟨?nc, ?ule, ?ugt, ?ge, ?le, ?gt, ?nov, ?pl⟩
  case ule | ugt =>
    rw [hnat]
    omega
  case le | gt =>
    rw [hint]
    omega
  all_goals omega

end

theorem compareSays_aluReg (s : State) (z : Size) (d : RegSel) (b : BitVec z.bits) :
    CompareSays z (s.readSel z d) b (s.aluReg .cp z d b).flags :=
  compareSays_of_subSpec (subOf_spec z (s.readSel z d) b false _)

/-- A memory operand is compared after its addressing mode has stepped, which leaves memory as it is. -/
theorem compareSays_memory (s : State) (z : Size) (m : MemOp) (b : BitVec z.bits) :
    CompareSays z (s.load z (s.ea m)) b ((s.advance m).aluMem .cp z (s.ea m) b).flags := by
  rw [← s.load_advance m]
  exact compareSays_of_subSpec (subOf_spec z _ b false _)

/-- Settles O40: CP leaves the flags of a subtraction, whatever its operands' form. -/
theorem conditionsAfterCompare : Obligations.ConditionsAfterCompare := by
  intro s
  refine ⟨fun z R r => ⟨_, rfl, compareSays_aluReg s z _ _⟩,
    fun r i => ⟨_, rfl, compareSays_aluReg s .byte _ i⟩, fun r i => ⟨_, rfl, compareSays_aluReg s .word _ i⟩,
    fun r i => ⟨_, rfl, compareSays_aluReg s .long _ i⟩,
    fun z r n => ⟨_, rfl, BitVec.ofNat_toNat z.bits n ▸ compareSays_aluReg s z _ _⟩,
    fun z R m => ⟨_, rfl, compareSays_aluReg (s.afterRead z m) z _ _⟩,
    fun z m R => ⟨_, rfl, compareSays_memory s z m _⟩,
    fun m i => ⟨_, rfl, compareSays_memory s .byte m i⟩, fun m i => ⟨_, rfl, compareSays_memory s .word m i⟩⟩

end Sys2Proof.Machine

/-! PROOF. Load, stack, address and exchange instructions, and the operations on one register. -/

namespace Sys2Proof.Machine

/-! ### Words printed in the spec -/

/-- The bytes of an instruction's own encoding decode to it, with nothing left. -/
theorem decode_of_encode {i : Instr} {bs : List Byte} (h : encode i = bs) (hwf : i.wellFormed = true)
    (hlone : isLonePrefix i = false) : decode bs = .ok (i, []) := by
  simpa [h] using decode_encode i [] hwf hlone

/-- Settles O5: each word is the encoding of the instruction that the spec names. -/
theorem printedWordsDecode : Obligations.PrintedWordsDecode := by
  refine ⟨?_, ?_, ?_, ?_, ?_, ?_, ?_, ?_, ?_, ?_, ?_⟩
  all_goals exact decode_of_encode (by decide) (by decide) (by decide)

/-! ### Registers written with what they hold, and registers that may be the same -/

/-- Bits replaced by themselves. -/
theorem insertBits_extract (w : BitVec 32) (lo n : Nat) : insertBits w lo (w.extractLsb' lo n) = w := by
  refine BitVec.eq_of_getLsbD_eq fun i _ => ?_
  rw [getLsbD_insertBits]
  split
  · next h =>
    have hn : i - lo < n := by omega
    rw [BitVec.getLsbD_extractLsb', Nat.add_sub_cancel' h.1]
    simp [hn]
  · rfl

theorem State.writeLong_readLong (s : State) (c : LongReg) : s.writeLong c (s.readLong c) = s := by
  simp [State.writeLong, State.readLong]

theorem State.writeLong_writeLong (s : State) (c : LongReg) (v w : BitVec 32) :
    (s.writeLong c v).writeLong c w = s.writeLong c w := by
  simp [State.writeLong]

/-- A register part written with what it holds leaves the state as it is. -/
theorem State.writeSel_readSel (s : State) (z : Size) (c : RegSel) : s.writeSel z c (s.readSel z c) = s := by
  rw [State.writeSel, State.readSel, insertBits_extract, State.writeLong_readLong]

/-- Two parts of one size at different places of a register have no bit in common (10_state.md R23). -/
theorem parts_apart {z : Size} {c d : RegSel} (hc : c.alignedAt z = true) (hd : d.alignedAt z = true)
    (h : c.part ≠ d.part) : partLow c + z.bits ≤ partLow d ∨ partLow d + z.bits ≤ partLow c := by
  obtain ⟨_, p⟩ := c
  obtain ⟨_, q⟩ := d
  simp only [partLow, RegSel.alignedAt] at hc hd h ⊢
  cases z <;> (revert p q; decide)

/-- Two names of register parts of one size are names of one part, under a register file pointer. -/
def SamePart (rfp : BitVec 2) (c d : RegSel) : Prop :=
  gprIndex rfp c.whole = gprIndex rfp d.whole ∧ c.part = d.part

theorem State.readSel_of_samePart (s : State) (z : Size) {c d : RegSel} (h : SamePart s.rfp c d) :
    s.readSel z c = s.readSel z d := by
  obtain ⟨hi, hp⟩ := h
  simp only [State.readSel, State.readLong, partLow, hi, hp]

/-- A part read after a part of its size is written: they are the same, or the write leaves it alone
(10_state.md R22, R23). -/
theorem State.readSel_writeSel (s : State) {z : Size} {c d : RegSel} (v : BitVec z.bits)
    (hc : c.alignedAt z = true) (hd : d.alignedAt z = true) :
    SamePart s.rfp c d ∧ (s.writeSel z d v).readSel z c = v
      ∨ (s.writeSel z d v).readSel z c = s.readSel z c := by
  by_cases hi : gprIndex s.rfp c.whole = gprIndex s.rfp d.whole
  · by_cases hp : c.part = d.part
    · refine .inl ⟨⟨hi, hp⟩, ?_⟩
      rw [State.readSel_of_samePart _ z (show SamePart (s.writeSel z d v).rfp c d from ⟨hi, hp⟩)]
      exact s.readSel_writeSel_same v hd
    · right
      rw [State.readSel, State.writeSel, State.readLong_writeLong, if_pos hi,
        extract_insertBits_apart _ _ _ _ _ (parts_apart hc hd hp)]
      simp only [State.readSel, State.readLong, hi]
  · right
    rw [State.readSel, State.writeSel, State.readLong_writeLong, if_neg hi]
    rfl

/-! ### One write, with the flags of an earlier state -/

section
variable {s : State} {z : Size} {f : Flags}

theorem wroteReg_writeShort (R : BitVec 3) (v : BitVec z.bits) (hf : s.flags = f := by simp) :
    WroteReg s (s.writeShort z R v) z (shortSel z R) v f :=
  hf ▸ wroteReg_writeSel_plain s v (alignedAt_shortSel z R)

theorem wroteReg_writeReg {r : RegOp} (v : BitVec z.bits) (h : r.alignedAt z = true)
    (hf : s.flags = f := by simp) : WroteReg s (s.writeReg z r v) z (operandSel z r) v f :=
  hf ▸ wroteReg_writeSel_plain s v (alignedAt_operandSel h)

theorem wroteReg_writeReg_setFlags {r : RegOp} (v : BitVec z.bits) (h : r.alignedAt z = true) :
    WroteReg s ((s.writeReg z r v).setFlags f) z (operandSel z r) v f :=
  wroteReg_writeSel s v f 0 (alignedAt_operandSel h)

theorem wroteMem_of_store (a : Addr) (v : BitVec z.bits) (hf : s.flags = f := by simp) :
    WroteMem s (s.store z a v) z a v f :=
  hf ▸ wroteMem_store_plain s a v

end

/-! ### LD, LDA and LDAR -/

/-- Settles O26: every form is one write of a register part. -/
theorem loadRegister : Obligations.LoadRegister := by
  intro s
  refine ⟨fun R i => ⟨_, rfl, wroteReg_writeShort R _⟩, fun R i => ⟨_, rfl, wroteReg_writeShort R _⟩,
    fun R i => ⟨_, rfl, wroteReg_writeShort R _⟩, fun r i h => ⟨_, rfl, wroteReg_writeReg _ h⟩,
    fun r i h => ⟨_, rfl, wroteReg_writeReg _ h⟩, fun r i h => ⟨_, rfl, wroteReg_writeReg _ h⟩,
    fun z R r => ⟨_, rfl, wroteReg_writeShort R _⟩, fun z r R h => ⟨_, rfl, wroteReg_writeReg _ h⟩,
    fun z r n h => ⟨_, rfl, ?num3⟩, fun z R m => ⟨_, rfl, wroteReg_writeShort R _⟩⟩
  case num3 =>
    rw [BitVec.ofNat_toNat]
    exact wroteReg_writeReg _ h

/-- Settles O27: every form is one store, after the addressing mode has stepped and the source is read. -/
theorem storeToMemory : Obligations.StoreToMemory := by
  intro s
  exact ⟨fun m R => ⟨_, rfl, wroteMem_of_store _ _⟩, fun m R => ⟨_, rfl, wroteMem_of_store _ _⟩,
    fun m R => ⟨_, rfl, wroteMem_of_store _ _⟩, fun a i => ⟨_, rfl, wroteMem_of_store _ _⟩,
    fun a i => ⟨_, rfl, wroteMem_of_store _ _⟩, fun m i => ⟨_, rfl, wroteMem_of_store _ _⟩,
    fun m i => ⟨_, rfl, wroteMem_of_store _ _⟩, fun z a m => ⟨_, rfl, wroteMem_of_store _ _⟩,
    fun m a => ⟨_, rfl, wroteMem_of_store _ _⟩, fun m a => ⟨_, rfl, wroteMem_of_store _ _⟩⟩

/-- The low bits of a value, as the spec and as the model write them. -/
theorem extract_low_eq_setWidth {n : Nat} (v : BitVec n) (k : Nat) : v.extractLsb' 0 k = v.setWidth k := by
  ext i hi
  simp

/-- The fifth byte of an LDAR at PC is the byte before the one after it (40_load_exchange.md R183). -/
theorem fifthByte_eq (pc : Addr) : pc + BitVec.ofNat 32 5 - 1#32 = pc + 4#32 := by bv_omega

/-- Settles O28: an address is a register's new value, and only the addressing mode steps before it. -/
theorem loadAddress : Obligations.LoadAddress := by
  intro s
  refine ⟨fun R m => ⟨_, rfl, ?_⟩, fun R m => ⟨_, rfl, wroteReg_writeShort R _⟩, fun R d => ⟨_, rfl, ?_⟩,
    fun R d => ⟨_, rfl, ?_⟩⟩
  · rw [extract_low_eq_setWidth]
    exact wroteReg_writeShort R _
  · rw [extract_low_eq_setWidth, ← fifthByte_eq]
    exact wroteReg_writeShort R _
  · rw [← fifthByte_eq]
    exact wroteReg_writeShort R _

/-! ### PUSH and POP -/

/-- Settles O29: every form is one push of what the operand holds before XSP moves. -/
theorem pushStores : Obligations.PushStores := by
  intro s
  exact ⟨fun i => ⟨_, rfl, pushed_push s .byte i⟩, fun i => ⟨_, rfl, pushed_push s .word i⟩,
    ⟨_, rfl, pushed_push s .byte s.regA⟩, ⟨_, rfl, pushed_push s .byte s.flags.toByte⟩,
    fun R => ⟨_, rfl, pushed_push s .word _⟩, fun R => ⟨_, rfl, pushed_push s .long _⟩,
    fun z r => ⟨_, rfl, pushed_push s z _⟩,
    fun z m => ⟨_, rfl, s.afterRead_pc z m ▸ pushed_push (s.afterRead z m) z _⟩⟩

/-- The top of the stack after an addressing mode has stepped, perhaps on XSP, which leaves memory as it is. -/
theorem State.top_advance (s : State) (m : MemOp) (z : Size) :
    (s.advance m).top z = s.load z (s.advance m).xsp := s.load_advance m z _

/-- Settles O30: the top of the stack is read and dropped, and then it is written to the destination. -/
theorem popLoads : Obligations.PopLoads := by
  intro s
  refine ⟨fun z => ⟨s.xsp_dropTop z, frame_dropTop s z, rfl, rfl⟩,
    ⟨_, rfl, wroteReg_writeSel_plain _ _ (alignedAt_selA .byte)⟩,
    ⟨_, rfl, s.xsp_dropTop .byte, rfl, rfl, frame_setFlags _ _⟩,
    fun R => ⟨_, rfl, wroteReg_writeShort R _⟩, fun R => ⟨_, rfl, wroteReg_writeShort R _⟩,
    fun z r h => ⟨_, rfl, wroteReg_writeReg _ h⟩, fun m => ⟨_, rfl, ?popMem⟩, fun m => ⟨_, rfl, ?popwMem⟩⟩
  case popMem | popwMem =>
    rw [← State.top_advance]
    exact wroteMem_of_store _ _

/-- A value pushed into RAM and dropped leaves XSP where it was, and the value below it. -/
theorem State.dropTop_push (s : State) {z : Size} (v : BitVec z.bits)
    (h : RamAt s (spanOf z.bytes (s.xsp - sizeWord z))) :
    (s.push z v).dropTop z = s.store z (s.xsp - sizeWord z) v := by
  have hm : MemoryAt (s.push z v) (spanOf z.bytes (s.xsp - sizeWord z)) := fun a ha => by
    rw [State.kindAt_push]
    exact h.memoryAt a ha
  have hxsp : (s.setXsp (s.xsp - sizeWord z)).setXsp s.xsp = s := by
    rw [State.setXsp, State.setXsp, State.writeLong_writeLong]
    exact s.writeLong_readLong longXSP
  rw [State.dropTop, State.xsp_push, State.loaded_memory _ hm, BitVec.sub_add_cancel]
  exact congrArg (·.store z (s.xsp - sizeWord z) v) hxsp

/-- Settles O31: what is popped is what the register holds, so the two together are one store. -/
theorem popUndoesPush : Obligations.PopUndoesPush := by
  intro s z r _ hram
  have hpop : exec (.popr z r) (s.push z (s.readReg z r))
      = .next (s.store z (s.xsp - sizeWord z) (s.readReg z r)) := by
    simp only [exec, execPopr, State.dropTop_push s _ hram, State.top_push s z _ hram]
    exact congrArg Host.Outcome.next (State.writeSel_readSel (s.store z _ _) z (operandSel z r))
  exact ⟨_, _, rfl, hpop, frame_store s z _ _, rfl, rfl⟩

/-! ### EX -/

/-- Settles O32. In `EX R,r` the two registers may be one, and then both keep its value. -/
theorem exchangeSwaps : Obligations.ExchangeSwaps := by
  intro s
  refine ⟨⟨decode_of_encode rfl rfl rfl, _, rfl, rfl⟩, fun z R r => rfl, fun z R r h => ⟨_, rfl, ?_⟩,
    fun z m R => ⟨_, rfl, ?_⟩⟩
  · have hR := alignedAt_shortSel z R
    have hr := alignedAt_operandSel h
    refine ⟨?_, State.readSel_writeSel_same _ _ hr, rfl, rfl,
      (frame_writeSel s z (shortSel z R) _).trans (frame_writeSel _ z (operandSel z r) _)⟩
    rcases (s.writeShort z R (s.readReg z r)).readSel_writeSel (s.readShort z R) hR hr with ⟨hsame, hv⟩ | hv
    · exact hv.trans (s.readSel_of_samePart z hsame)
    · exact hv.trans (s.readSel_writeSel_same _ hR)
  · exact ⟨State.readSel_writeSel_same _ _ (alignedAt_shortSel z R), stored_store (s.afterRead z m) z _ _,
      by simp, by simp, (frame_writeSel (s.afterRead z m) z (shortSel z R) _).trans (frame_store _ z _ _)⟩

/-! ### Operations on one register -/

/-- The lower half of a value, extended with zeros (42_arithmetic.md R230). -/
theorem toNat_zeroHalf (z : Size) (x : BitVec z.bits) :
    ((x.setWidth (z.bits / 2)).setWidth z.bits).toNat = x.toNat % 2 ^ (z.bits / 2) := by
  rw [BitVec.toNat_setWidth_of_le (Nat.div_le_self _ _), BitVec.toNat_setWidth]

/-- The lower half of a value, extended with its sign (42_arithmetic.md R231). -/
theorem toInt_signHalf (z : Size) (x : BitVec z.bits) :
    ((x.setWidth (z.bits / 2)).signExtend z.bits).toInt = (x.extractLsb' 0 (z.bits / 2)).toInt := by
  rw [BitVec.toInt_signExtend_of_le (Nat.div_le_self _ _), extract_low_eq_setWidth]

/-- Bit 0 says whether a value is odd. -/
theorem getLsbD_zero_eq_odd {n : Nat} (x : BitVec n) : x.getLsbD 0 = decide (x.toNat % 2 = 1) := by
  rw [BitVec.getLsbD, Nat.testBit_zero]

/-- PAA writes the next even value, which an even value is itself (42_arithmetic.md R233). -/
theorem wroteReg_paa (s : State) {z : Size} {r : RegOp} (h : r.alignedAt z = true) :
    ∃ t v, exec (.paa z r) s = .next t
      ∧ v.toNat = (2 * (((s.readReg z r).toNat + 1) / 2)) % 2 ^ z.bits
      ∧ WroteReg s t z (operandSel z r) v s.flags := by
  have hodd := getLsbD_zero_eq_odd (s.readReg z r)
  by_cases hbit : (s.readReg z r).getLsbD 0 = true
  · refine ⟨_, _, congrArg Host.Outcome.next (if_pos hbit), ?_, wroteReg_writeReg _ h⟩
    have hz : 1 % 2 ^ z.bits = 1 := by cases z <;> rfl
    rw [hodd, decide_eq_true_iff] at hbit
    rw [BitVec.toNat_add, show (1 : BitVec z.bits).toNat = 1 from hz]
    congr 1
    omega
  · refine ⟨_, s.readReg z r, congrArg Host.Outcome.next (if_neg hbit), ?_, wroteReg_flags s z _ _ 0⟩
    rw [hodd, decide_eq_true_iff] at hbit
    rw [show 2 * (((s.readReg z r).toNat + 1) / 2) = (s.readReg z r).toNat by omega,
      Nat.mod_eq_of_lt (s.readReg z r).isLt]

/-- Bit `i` of a mirrored word (40_load_exchange.md R187). -/
theorem getLsbD_mirrored (x : BitVec 16) {i : Nat} (hi : i < 16) :
    x.reverse.getLsbD i = x.getLsbD (15 - i) := by
  rw [BitVec.getLsbD_reverse, BitVec.getMsbD, decide_eq_true hi, Bool.true_and]

/-- Settles O42: every operation is one write of the register with the value its rule gives. -/
theorem oneRegisterOperations : Obligations.OneRegisterOperations := by
  intro s z r h
  refine ⟨⟨_, _, _, rfl, subOf_spec z 0 _ false _, wroteReg_writeSel s _ _ 1 (alignedAt_operandSel h)⟩,
    ⟨_, _, rfl, fun i hi => ?cpl, wroteReg_writeReg_setFlags _ h⟩,
    fun _ => ⟨_, _, rfl, toNat_zeroHalf z _, wroteReg_writeReg _ h⟩,
    fun _ => ⟨_, _, rfl, toInt_signHalf z _, wroteReg_writeReg _ h⟩,
    fun _ => wroteReg_paa s h, ?mirr, fun cc => ⟨_, _, rfl, ?scc, wroteReg_writeReg _ h⟩⟩
  case cpl => simp [hi]
  case mirr =>
    rintro rfl
    exact ⟨_, _, rfl, fun _ hi => getLsbD_mirrored _ hi, wroteReg_writeReg _ h⟩
  case scc => cases z <;> split <;> rfl

end Sys2Proof.Machine

/-! PROOF. Block transfer and block search (41_block_transfer_search.md): what one item does, and what the
items of a whole block come to, by an invariant over the items done. -/

namespace Sys2Proof.Machine

/-! ### The pointers and the count -/

/-- The two pointers of a block transfer and XBC are three registers, whatever bank is current (R200). -/
theorem blockPointers_apart (rfp : BitVec 2) (index : Bool) :
    gprIndex rfp (blockPointers index).1 ≠ gprIndex rfp (blockPointers index).2
      ∧ gprIndex rfp (blockPointers index).1 ≠ gprIndex rfp longXBC
      ∧ gprIndex rfp (blockPointers index).2 ≠ gprIndex rfp longXBC := by
  decide +revert

/-- Of the short codes only that of XBC names the register that counts. -/
theorem gprIndex_shortLong_eq_longXBC {rfp : BitVec 2} {R : BitVec 3} :
    gprIndex rfp (shortLong R) = gprIndex rfp longXBC ↔ shortLong R = longXBC := by
  decide +revert

/-- The pointers from code 2 on are neither XWA, which is compared, nor XBC, which counts. -/
theorem shortLong_apart (rfp : BitVec 2) (R : BitVec 3) (h : 2 ≤ R.toNat) :
    gprIndex rfp (shortLong R) ≠ gprIndex rfp selA.whole ∧ shortLong R ≠ longXBC := by
  decide +revert

section
variable {s t : State} {z : Size} {down : Bool} {c p : LongReg}

/-- A register part depends on its 32-bit register only. -/
theorem State.readSel_of_readLong {d : RegSel} (h : t.readLong d.whole = s.readLong d.whole) :
    t.readSel z d = s.readSel z d := by
  simp only [State.readSel, h]

/-- A register after a pointer is moved: the pointer itself is one size further. -/
theorem State.readLong_movePointer : (s.movePointer z down p).readLong c
    = if gprIndex s.rfp c = gprIndex s.rfp p then pointerAfter down z (s.readLong p) else s.readLong c :=
  s.readLong_writeLong p c _

/-- A register after BC is counted down: the lower half of XBC is one less. -/
theorem State.readLong_countDown : s.countDown.readLong c
    = if gprIndex s.rfp c = gprIndex s.rfp longXBC then insertBits (s.readLong longXBC) 0 (s.regBC - 1#16)
      else s.readLong c :=
  s.readLong_writeLong longXBC c _

@[simp] theorem State.regBC_countDown : s.countDown.regBC = s.regBC - 1#16 :=
  State.readSel_writeSel_same s _ (alignedAt_selBC .word)

/-- The count after a pointer is moved, which may be XBC. -/
theorem State.regBC_movePointer : (s.movePointer z down p).regBC
    = if gprIndex s.rfp longXBC = gprIndex s.rfp p then (pointerAfter down z (s.readLong p)).extractLsb' 0 16
      else s.regBC := by
  change ((s.movePointer z down p).readLong longXBC).extractLsb' 0 16 = _
  rw [State.readLong_movePointer, apply_ite (BitVec.extractLsb' 0 16)]
  rfl

theorem State.countDone_iff : s.countDone = true ↔ s.regBC = 0#16 := beq_iff_eq

theorem State.not_countDone_iff : (!s.countDone) = true ↔ s.regBC ≠ 0#16 := bne_iff_ne

/-- BC is 0 after an item exactly if it was 1 before. -/
theorem sub_one_eq_zero_iff {bc : BitVec 16} : bc - 1#16 = 0#16 ↔ bc = 1#16 := by
  bv_omega

end

/-! ### One item of a block transfer -/

theorem exec_formTransfer (s : State) (down index : Bool) (z : Size) :
    exec (formTransfer down index z) s
      = .next (s.transferOne z down (blockPointers index).1 (blockPointers index).2) := by
  cases down <;> cases index <;> rfl

theorem exec_formTransferRepeat (s : State) (down index : Bool) (z : Size) :
    exec (formTransferRepeat down index z) s
      = .next (s.transferRepeat (formTransferRepeat down index z) z down (blockPointers index).1
          (blockPointers index).2) := by
  cases down <;> cases index <;> rfl

/-- The count after an item of a transfer whose pointers are not XBC. -/
theorem State.regBC_moveItem (s : State) (z : Size) (down : Bool) {dst src : LongReg}
    (hd : gprIndex s.rfp dst ≠ gprIndex s.rfp longXBC) (hs : gprIndex s.rfp src ≠ gprIndex s.rfp longXBC) :
    (s.moveItem z down dst src).regBC = s.regBC - 1#16 := by
  simp [State.moveItem, State.regBC_movePointer, hd.symm, hs.symm]

theorem frame_moveItem (s : State) (z : Size) (down : Bool) (dst src : LongReg) :
    Frame (s.loaded z (s.readLong src)) (s.moveItem z down dst src)
      [wholeOf dst, wholeOf src, (.word, selBC)] (spanOf z.bytes (s.readLong dst)) := by
  have hstore := frame_store (s.loaded z (s.readLong src)) z (s.readLong dst) (s.load z (s.readLong src))
  exact (((hstore.trans (frame_movePointer _ z down dst)).trans (frame_movePointer _ z down src)).trans
    (frame_countDown _)).mono (by simp) (by simp)

/-- All that an item of a transfer does where the pointers and XBC are three registers: the store, the two
pointers, the count and the flags, each of which leaves the others alone. -/
theorem movedItem_transferFlags (s : State) (z : Size) (down v : Bool) {dst src : LongReg}
    (hne : gprIndex s.rfp dst ≠ gprIndex s.rfp src) (hd : gprIndex s.rfp dst ≠ gprIndex s.rfp longXBC)
    (hs : gprIndex s.rfp src ≠ gprIndex s.rfp longXBC) :
    MovedItem s ((s.moveItem z down dst src).transferFlags v) down z dst src v := by
  refine ⟨stored_store (s.loaded z (s.readLong src)) z _ _, ?dst, ?src, s.regBC_moveItem z down hd hs, rfl,
    rfl, ?frame⟩
  case dst => simp [State.moveItem, State.readLong_countDown, State.readLong_movePointer, hne, hd]
  case src => simp [State.moveItem, State.readLong_countDown, State.readLong_movePointer, hne.symm, hs]
  case frame =>
    exact ((frame_moveItem s z down dst src).trans
      (frame_setFlags _ { s.flags with h := false, v := v, n := false })).mono (by simp) (by simp)

/-- An item of a block transfer, with V as given. -/
theorem movedItem_blockPointers (s : State) (down index : Bool) (z : Size) (v : Bool) :
    MovedItem s ((s.moveItem z down (blockPointers index).1 (blockPointers index).2).transferFlags v) down z
      (blockPointers index).1 (blockPointers index).2 v :=
  have ⟨hne, hd, hs⟩ := blockPointers_apart s.rfp index
  movedItem_transferFlags s z down v hne hd hs

/-- One item of LDIR or LDDR, which goes on at its own address if BC was not 1 (R202, R204). -/
theorem exec_transferRepeat_item (s : State) (down index : Bool) (z : Size) :
    ∃ t, MovedItem s t down z (blockPointers index).1 (blockPointers index).2 false
      ∧ exec (formTransferRepeat down index z) s
          = .next (if s.regBC = 1#16 then t
              else { t with pc := s.pc - 2#32, repeating := some (formTransferRepeat down index z) }) := by
  have hm := movedItem_blockPointers s down index z false
  obtain ⟨-, -, -, hbc, -, -, -⟩ := id hm
  refine ⟨_, hm, ?_⟩
  rw [exec_formTransferRepeat, State.transferRepeat]
  simp only [State.countDone_iff, hbc, sub_one_eq_zero_iff]
  rfl

/-- A repeating block instruction whose item stores outside the windows completes its step. -/
theorem step_of_repeat_next {s s' t : State} {i : Instr} (hr : s.repeating = some i) (hh : s.halted = false)
    (hg : s.sample = .goOn s') (hu : s.unsampled = false) (he : exec i (s'.past 2) = .next t)
    (hw : t.staleFetch s.pc 2 = false) : step s = .next t.settled := by
  rw [step_of_repeat hg hh hu hr, State.runInstr]
  simp [he, hw]

/-- Settles O33: both forms are one item of a transfer, with V as each writes it. -/
theorem blockTransferMovesItems : Obligations.BlockTransferMovesItems := by
  refine ⟨fun s down index z => ⟨⟨_, exec_formTransfer s down index z, ?_⟩,
    exec_transferRepeat_item s down index z⟩, fun s s' t i => step_of_repeat_next⟩
  have hm := movedItem_blockPointers s down index z (s.regBC != 1#16)
  obtain ⟨-, -, -, hbc, -, -, -⟩ := id hm
  have hv : (!(s.moveItem z down (blockPointers index).1 (blockPointers index).2).countDone)
      = (s.regBC != 1#16) := by
    rw [State.countDone, ← State.regBC_transferFlags, hbc, bne]
    exact congrArg (!·) (Bool.eq_iff_iff.mpr (by simp only [beq_iff_eq, sub_one_eq_zero_iff]))
  rwa [State.transferOne, hv]

/-! ### One item of a block search -/

theorem exec_formSearch (s : State) (down : Bool) (z : Size) (R : BitVec 3) :
    exec (formSearch down z R) s = .next (s.searchItem z down (shortLong R)) := by
  cases down <;> rfl

theorem exec_formSearchRepeat (s : State) (down : Bool) (z : Size) (R : BitVec 3) :
    exec (formSearchRepeat down z R) s
      = .next (s.searchRepeat (formSearchRepeat down z R) z down (shortLong R)) := by
  cases down <;> rfl

/-- All that an item of a search does, with any pointer that is XBC or stored elsewhere: the pointer, then the
count, which is in the stepped register where the pointer is XBC (D18), and the flags. -/
theorem searchedItem_searchItem (s : State) (z : Size) (down : Bool) (R : BitVec 3) :
    SearchedItem s (s.searchItem z down (shortLong R)) down z (shortLong R) := by
  refine ⟨?pointer, ?count, signZero_of z _ rfl rfl, decide_eq_true_iff, ?v, rfl, rfl, rfl, ?frame⟩
  case pointer =>
    by_cases hp : shortLong R = longXBC <;>
      simp [State.searchItem, State.readLong_countDown, State.readLong_movePointer, State.regBC_movePointer,
        gprIndex_shortLong_eq_longXBC, hp]
  case count =>
    simp [State.searchItem, State.regBC_movePointer, eq_comm (a := gprIndex s.rfp longXBC),
      gprIndex_shortLong_eq_longXBC]
  case v => exact State.not_countDone_iff
  case frame =>
    exact (((frame_movePointer (s.loaded z _) z down (shortLong R)).trans (frame_countDown _)).trans
      (frame_setFlags _ _)).mono (by simp) (by simp)

/-- One item of CPIR or CPDR, which goes on at its own address until Z is 1 or BC is 0 (R206, R208). -/
theorem exec_searchRepeat_item (s : State) (down : Bool) (z : Size) (R : BitVec 3) :
    let t := s.searchItem z down (shortLong R)
    exec (formSearchRepeat down z R) s
      = .next (if t.flags.z = true ∨ t.regBC = 0#16 then t
          else { t with pc := s.pc - 2#32, repeating := some (formSearchRepeat down z R) }) := by
  intro t
  rw [exec_formSearchRepeat, State.searchRepeat]
  simp only [Bool.or_eq_true, State.countDone_iff]
  rfl

/-- In the middle of a search nothing but reset is sampled (R209; log entry 12). -/
theorem State.unsampled_of_search {s : State} {down : Bool} {z : Size} {R : BitVec 3}
    (hr : s.repeating = some (formSearchRepeat down z R)) (hi : s.inputs.head? ≠ some .reset) :
    s.unsampled = true := by
  unfold State.unsampled
  rw [hr]
  cases down with
  | false | true =>
    cases hs : s.inputs with
    | nil => rfl
    | cons i rest =>
      cases i with
      | reset => exact absurd (by rw [hs]; rfl) hi
      | _ => rfl

/-- An instruction that stores nothing completes. -/
theorem State.runInstr_of_no_store {s t : State} {i : Instr} {start : Addr} {len : Nat}
    (he : exec i s = .next t) (hw : t.written = []) : s.runInstr i start len = .next t.settled := by
  simp [State.runInstr, he, State.staleFetch, hw]

/-- In the middle of a search the next item runs, whatever is presented but reset. -/
theorem step_of_search {s : State} {down : Bool} {z : Size} {R : BitVec 3}
    (hr : s.repeating = some (formSearchRepeat down z R)) (hi : s.inputs.head? ≠ some .reset) :
    step s = (s.past 2).runInstr (formSearchRepeat down z R) s.pc 2 := by
  simp [step, State.stepOnce, State.unsampled_of_search hr hi, State.runNext, hr]

/-- An item of a search stores nothing and samples nothing, whether it goes on or not. -/
theorem State.searchRepeat_kept (s : State) (i : Instr) (z : Size) (down : Bool) (p : LongReg) :
    (s.searchRepeat i z down p).written = s.written ∧ (s.searchRepeat i z down p).inputs = s.inputs := by
  unfold State.searchRepeat
  dsimp only
  split
  · exact ⟨rfl, rfl⟩
  · exact ⟨rfl, rfl⟩

/-- Settles O35: both forms are one item of a search, and the sampling point is passed over between items. -/
theorem blockSearchComparesOneItem : Obligations.BlockSearchComparesOneItem := by
  refine ⟨fun s down z R _ => ?_, fun s down z R _ hr hi => ?_⟩
  · have hs := searchedItem_searchItem s z down R
    exact ⟨⟨_, exec_formSearch s down z R, hs⟩, _, hs, exec_searchRepeat_item s down z R⟩
  · have he := exec_formSearchRepeat (s.past 2) down z R
    obtain ⟨hw, hin⟩ := (s.past 2).searchRepeat_kept (formSearchRepeat down z R) z down (shortLong R)
    exact ⟨_, he, (step_of_search hr hi).trans (State.runInstr_of_no_store he hw), hin⟩

/-! ### The items of a block -/

/-- The rule for a block instruction left alone: what holds before the first item and is kept by every item
after which more follow, and what the item that ends it makes of that. -/
theorem blockRun_of_invariant {i : Instr} {n : Nat} {P : Nat → State → Prop} {Q : State → Prop}
    (hitem : ∀ k u, k < n → P k u → ∃ t, exec i (u.past 2) = .next t
      ∧ (t.repeating = none ∧ Q t ∨ t.repeating ≠ none ∧ k + 1 < n ∧ P (k + 1) t))
    {s : State} (hn : 0 < n) (h0 : P 0 s) : ∃ t, blockRun i n s = .next t ∧ Q t := by
  have hrun : ∀ m k u, k + m = n → 0 < m → P k u → ∃ t, blockRun i m u = .next t ∧ Q t := by
    intro m
    induction m with
    | zero => exact fun _ _ _ h0 => absurd h0 (Nat.lt_irrefl 0)
    | succ m ih =>
      intro k u hk _ hu
      obtain ⟨t, he, ⟨hr, hq⟩ | ⟨hr, hlt, hp⟩⟩ := hitem k u (by omega) hu
      · exact ⟨t, by simp [blockRun, he, hr], hq⟩
      · obtain ⟨t', hb, hq⟩ := ih (k + 1) t (by omega) (by omega) hp
        exact ⟨t', by simpa [blockRun, he, hr] using hb, hq⟩
  exact hrun n 0 s (Nat.zero_add n) hn h0

theorem itemCount_pos (bc : BitVec 16) : 0 < itemCount bc := by
  unfold itemCount
  split <;> bv_omega

theorem itemCount_le (bc : BitVec 16) : itemCount bc ≤ 65536 := by
  unfold itemCount
  split <;> omega

/-- BC is 0 after an item exactly if it was the last one. -/
theorem count_eq_zero_iff {bc : BitVec 16} {k : Nat} (h : k < itemCount bc) :
    bc - BitVec.ofNat 16 (k + 1) = 0#16 ↔ k + 1 = itemCount bc := by
  by_cases h0 : bc = 0#16 <;> simp only [itemCount, h0, if_true, if_false] at h ⊢ <;> bv_omega

/-- The count after one item more. -/
theorem count_succ (bc : BitVec 16) (k : Nat) :
    bc - BitVec.ofNat 16 k - 1#16 = bc - BitVec.ofNat 16 (k + 1) := by
  rw [BitVec.ofNat_add, BitVec.sub_sub]

@[simp] theorem itemAddr_zero (down : Bool) (z : Size) (p : BitVec 32) : itemAddr down z p 0 = p := by
  simp [itemAddr]

/-- A pointer that is moved after an item points at the next one. -/
theorem pointerAfter_itemAddr (down : Bool) (z : Size) (p : BitVec 32) (k : Nat) :
    pointerAfter down z (itemAddr down z p k) = itemAddr down z p (k + 1) := by
  cases down <;>
    simp [pointerAfter, itemAddr, sizeWord, Nat.add_mul, BitVec.ofNat_add, BitVec.sub_sub, BitVec.add_assoc]

/-! ### The items of a search -/

/-- From `s` to `u` a search with the pointer `p` has done `k` items. -/
structure SearchedTo (s u : State) (down : Bool) (z : Size) (p : LongReg) (k : Nat) : Prop where
  pointer : u.readLong p = itemAddr down z (s.readLong p) k
  count : u.regBC = s.regBC - BitVec.ofNat 16 k
  compared : u.readSel z selA = s.readSel z selA
  carry : u.flags.c = s.flags.c
  bus : u.bus = s.bus

theorem SearchedTo.zero (s : State) (down : Bool) (z : Size) (p : LongReg) : SearchedTo s s down z p 0 :=
  ⟨(itemAddr_zero ..).symm, (BitVec.sub_zero _).symm, rfl, rfl, rfl⟩

/-- An item of a search reads the address space and changes neither A nor WA, where the pointer is not XWA. -/
theorem State.searchItem_compared (s : State) (z : Size) (down : Bool) {p : LongReg}
    (hp : gprIndex s.rfp p ≠ gprIndex s.rfp selA.whole) :
    (s.searchItem z down p).readSel z selA = s.readSel z selA := by
  have hA : gprIndex s.rfp selA.whole ≠ gprIndex s.rfp longXBC := by
    generalize s.rfp = rfp
    decide +revert
  refine State.readSel_of_readLong ?_
  simp [State.searchItem, State.readLong_countDown, State.readLong_movePointer, hA, hp.symm]

/-- One item more of a search: Z says whether it is equal to what is compared. -/
theorem SearchedTo.item {s u : State} {down : Bool} {z : Size} {R : BitVec 3} {k : Nat}
    (h : SearchedTo s u down z (shortLong R) k) (hR : 2 ≤ R.toNat)
    (hm : MemoryAt s (spanOf z.bytes (itemAddr down z (s.readLong (shortLong R)) k))) :
    let t := (u.past 2).searchItem z down (shortLong R)
    SearchedTo s t down z (shortLong R) (k + 1)
      ∧ (t.flags.z = true
        ↔ s.load z (itemAddr down z (s.readLong (shortLong R)) k) = s.readSel z selA)
      ∧ (t.flags.v = true ↔ t.regBC ≠ 0#16) ∧ t.flags.n = true ∧ t.pc = u.pc + 2#32
      ∧ t.repeating = none := by
  obtain ⟨hA, hBC⟩ := shortLong_apart u.rfp R hR
  obtain ⟨hp, hbc, ⟨-, hz⟩, -, hv, hn, hc, hpc, -⟩ := searchedItem_searchItem (u.past 2) z down R
  rw [if_neg hBC] at hp hbc
  refine ⟨⟨?_, ?_, ?_, hc.trans h.carry, ?_⟩, ?_, hv, hn, hpc, rfl⟩
  · rw [hp, State.readLong_past, h.pointer, pointerAfter_itemAddr]
  · rw [hbc, State.regBC_past, h.count, count_succ]
  · exact (State.searchItem_compared _ z down hA).trans h.compared
  · change u.bus.noteReads z.bytes (u.readLong (shortLong R)) = s.bus
    rw [h.pointer, h.bus, Bus.noteReads_memory _ hm]
  · have hload : u.load z (u.readLong (shortLong R))
        = s.load z (itemAddr down z (s.readLong (shortLong R)) k) := by
      rw [h.pointer, State.load, h.bus, State.load]
    rw [hz, State.readLong_past, State.readSel_past, State.load_past, hload, h.compared, sub_eq_zero, eq_comm]

/-- From `s` to `u` a search has done `k` items, none of them equal to what is compared, and is back at its own
address. -/
structure SearchGoesOn (s u : State) (down : Bool) (z : Size) (p : LongReg) (k : Nat) : Prop
    extends SearchedTo s u down z p k where
  pc : u.pc = s.pc
  unequal : ∀ j, j < k → s.load z (itemAddr down z (s.readLong p) j) ≠ s.readSel z selA

theorem SearchGoesOn.zero (s : State) (down : Bool) (z : Size) (p : LongReg) : SearchGoesOn s s down z p 0 :=
  ⟨.zero s down z p, rfl, fun _ hj => absurd hj (Nat.not_lt_zero _)⟩

/-- Settles O36. Before each item none of those done was equal; the item that is, or the last one, ends the
search. -/
theorem searchFindsFirstMatch : Obligations.SearchFindsFirstMatch := by
  intro s down z R _ hR at' item a count hm
  refine blockRun_of_invariant (P := fun k u => SearchGoesOn s u down z (shortLong R) k) (fun k u hk hu => ?_)
    (itemCount_pos _) (.zero ..)
  obtain ⟨ht, hz, hv, hn, hpc, hr⟩ := hu.item hR (hm k hk)
  have hex := exec_searchRepeat_item (u.past 2) down z R
  have hlast : _ ↔ k + 1 = count := count_eq_zero_iff hk
  rw [← ht.count] at hlast
  generalize (u.past 2).searchItem z down (shortLong R) = t at ht hz hv hn hpc hr hex hlast
  by_cases hend : t.flags.z = true ∨ t.regBC = 0#16
  · refine ⟨t, hex.trans (congrArg _ (if_pos hend)), .inl ⟨hr, hr, fun k' hk' heq hfirst => ?first,
      fun hall => ?none, hv, hn, ht.carry, ht.bus, hu.pc ▸ hpc⟩⟩
    case first =>
      rcases lt_trichotomy k' k with hlt | rfl | hgt
      · exact absurd heq (hu.unequal k' hlt)
      · exact ⟨hz.mpr heq, ht.pointer, ht.count⟩
      · have hdone := hlast.mp (hend.resolve_left fun h => hfirst k hgt (hz.mp h))
        omega
    case none =>
      have hz' : ¬t.flags.z = true := fun h => hall k hk (hz.mp h)
      have hbc := hend.resolve_left hz'
      exact ⟨Bool.eq_false_iff.mpr hz', hlast.mp hbc ▸ ht.pointer, hbc⟩
  · obtain ⟨hz', hbc⟩ := not_or.mp hend
    have hmore : k + 1 ≠ count := fun h => hbc (hlast.mpr h)
    refine ⟨_, hex.trans (congrArg _ (if_neg hend)), .inr ⟨nofun, by omega, ?_⟩⟩
    refine ⟨⟨ht.pointer, ht.count, ht.compared, ht.carry, ht.bus⟩, ?_, fun j hj => ?_⟩
    · simp [hu.pc]
    · rcases Nat.lt_succ_iff_lt_or_eq.mp hj with hlt | rfl
      · exact hu.unequal j hlt
      · exact fun h => hz' (hz.mpr h)

/-! ### The items of a transfer -/

/-- No two items of a block share a byte: 65536 items of 4 bytes are less than the address space. -/
theorem itemAddr_spans_apart {down : Bool} {z : Size} {p : BitVec 32} {j k : Nat} (hj : j < 65536)
    (hk : k < 65536) (hne : j ≠ k) {a : Nat} (ha : a ∈ spanOf z.bytes (itemAddr down z p j)) :
    a ∉ spanOf z.bytes (itemAddr down z p k) := by
  intro hb
  obtain ⟨i, hi, rfl⟩ := mem_spanOf.mp ha
  obtain ⟨i', hi', h⟩ := mem_spanOf.mp hb
  have hp := p.isLt
  simp only [busAddr, Memory.size, BitVec.toNat_add, BitVec.toNat_ofNat] at h
  cases down with
  | false | true =>
    simp only [itemAddr, Bool.false_eq_true, if_true, if_false, BitVec.toNat_add, BitVec.toNat_sub,
      BitVec.toNat_ofNat] at h
    cases z with
    | byte | word | long =>
      simp only [Size.bytes] at h hi hi'
      omega

/-- What addresses hold depends on the memory map only. -/
theorem State.kindAt_of_map {s t : State} (h : t.bus.map = s.bus.map) (a : Nat) : t.kindAt a = s.kindAt a := by
  rw [State.kindAt, h, State.kindAt]

/-- A byte of a value loaded from RAM or ROM. -/
theorem State.load_byte_memory (s : State) {z : Size} (a : Addr) {i : Nat} (hi : i < z.bytes)
    (hm : MemoryAt s (spanOf z.bytes a)) :
    (s.load z a).extractLsb' (8 * i) 8 = s.byteAt (busAddr (a + BitVec.ofNat 32 i)) := by
  rw [State.load_byte s a hi, Bus.read_noteReads]
  exact if_pos (hm _ (mem_spanOf.mpr ⟨i, hi, rfl⟩))

/-- From `s` to `u` a transfer has done `k` items. -/
structure CopiedTo (s u : State) (down : Bool) (z : Size) (dst src : LongReg) (k : Nat) : Prop where
  target : u.readLong dst = itemAddr down z (s.readLong dst) k
  source : u.readLong src = itemAddr down z (s.readLong src) k
  count : u.regBC = s.regBC - BitVec.ofNat 16 k
  copied : ∀ j i, j < k → i < z.bytes →
    u.byteAt (busAddr (itemAddr down z (s.readLong dst) j + BitVec.ofNat 32 i))
      = s.byteAt (busAddr (itemAddr down z (s.readLong src) j + BitVec.ofNat 32 i))
  kept : ∀ a, (∀ j, j < k → a ∉ spanOf z.bytes (itemAddr down z (s.readLong dst) j)) →
    u.byteAt a = s.byteAt a
  map : u.bus.map = s.bus.map
  accesses : u.bus.accesses = s.bus.accesses
  flags : { u.flags with h := false, v := false, n := false }
    = { s.flags with h := false, v := false, n := false }

theorem CopiedTo.zero (s : State) (down : Bool) (z : Size) (dst src : LongReg) :
    CopiedTo s s down z dst src 0 :=
  ⟨(itemAddr_zero ..).symm, (itemAddr_zero ..).symm, (BitVec.sub_zero _).symm,
    fun _ _ hj => absurd hj (Nat.not_lt_zero _), fun _ _ => rfl, rfl, rfl, rfl⟩

/-- One item more of a transfer, whose source is as it was at first. -/
theorem CopiedTo.item {s u t : State} {down : Bool} {z : Size} {dst src : LongReg} {k : Nat}
    (h : CopiedTo s u down z dst src k) (hk : k < 65536)
    (hram : RamAt s (spanOf z.bytes (itemAddr down z (s.readLong dst) k)))
    (hmem : MemoryAt s (spanOf z.bytes (itemAddr down z (s.readLong src) k)))
    (hread : ∀ j, j < k → ∀ a ∈ spanOf z.bytes (itemAddr down z (s.readLong dst) j),
      a ∉ spanOf z.bytes (itemAddr down z (s.readLong src) k))
    (hm : MovedItem (u.past 2) t down z dst src false) :
    CopiedTo s t down z dst src (k + 1)
      ∧ t.flags = { s.flags with h := false, v := false, n := false } ∧ t.pc = u.pc + 2#32
      ∧ t.repeating = none := by
  have hkind (a : Nat) : (u.past 2).kindAt a = s.kindAt a := State.kindAt_of_map h.map a
  have hsrc : MemoryAt (u.past 2) (spanOf z.bytes (itemAddr down z (s.readLong src) k)) := fun a ha =>
    hkind a ▸ hmem a ha
  have hdst : MemoryAt (u.past 2) (spanOf z.bytes (itemAddr down z (s.readLong dst) k)) := fun a ha =>
    hkind a ▸ hram.memoryAt a ha
  simp only [MovedItem, State.readLong_past, h.target, h.source, State.loaded_memory _ hsrc] at hm
  obtain ⟨⟨hholds, -⟩, hd, hs, hbc, hf, hpc, -, ⟨hmap, hkept, hacc, -⟩, -, -, -, -, -, -, hrep⟩ := hm
  have hflags := hf.trans h.flags
  refine ⟨⟨?_, ?_, ?_, fun j i hj hi => ?copied, fun a ha => ?kept, hmap.trans h.map,
    (hacc hdst).trans h.accesses, ?_⟩, hflags, hpc, hrep⟩
  · rw [hd, pointerAfter_itemAddr]
  · rw [hs, pointerAfter_itemAddr]
  · rw [hbc, State.regBC_past, h.count, count_succ]
  case copied =>
    rcases Nat.lt_succ_iff_lt_or_eq.mp hj with hlt | rfl
    · rw [hkept _ fun ha => absurd ha (itemAddr_spans_apart (by omega) hk (Nat.ne_of_lt hlt)
        (mem_spanOf.mpr ⟨i, hi, rfl⟩)), ← h.copied j i hlt hi]
      rfl
    · have hk : t.kindAt _ = .ram := (State.kindAt_of_map hmap _).trans
        ((hkind _).trans (hram _ (mem_spanOf.mpr ⟨i, hi, rfl⟩)))
      rw [hholds i hi hk, State.load_byte_memory _ _ hi hsrc, State.byteAt_past]
      exact h.kept _ fun j' hj' ha => hread j' hj' _ ha (mem_spanOf.mpr ⟨i, hi, rfl⟩)
  case kept =>
    rw [hkept a fun hin => absurd hin (ha k (Nat.lt_succ_self k)), State.byteAt_past]
    exact h.kept a fun j hj => ha j (Nat.lt_succ_of_lt hj)
  · rw [hflags]

/-- Settles O34. Each item is copied from a source that no item before it has stored to. -/
theorem ldirCopiesBlock : Obligations.LdirCopiesBlock := by
  intro s down index z _ dst src count hmem hread
  refine blockRun_of_invariant
    (P := fun k u => CopiedTo s u down z (blockPointers index).1 (blockPointers index).2 k ∧ u.pc = s.pc)
    (fun k u hk hu => ?_) (itemCount_pos _) ⟨.zero .., rfl⟩
  obtain ⟨hu, hupc⟩ := hu
  obtain ⟨t, hm, hex⟩ := exec_transferRepeat_item (u.past 2) down index z
  obtain ⟨hram, hrom⟩ := hmem k hk
  obtain ⟨-, -, -, hbc, -, -, -⟩ := id hm
  obtain ⟨ht, hf, hpc, hr⟩ := hu.item (Nat.lt_of_lt_of_le hk (itemCount_le _)) hram hrom
    (fun j hj => hread j k hj hk) hm
  have hlast : t.regBC = 0#16 ↔ k + 1 = count := by
    rw [ht.count]
    exact count_eq_zero_iff hk
  rw [hbc, sub_one_eq_zero_iff] at hlast
  by_cases hend : (u.past 2).regBC = 1#16
  · have hk1 := hlast.mp hend
    rw [hk1] at ht
    refine ⟨t, hex.trans (congrArg _ (if_pos hend)), .inl ⟨hr, ⟨hr, ?_⟩, ht.copied, ht.kept, ht.target,
      ht.source, hf, hupc ▸ hpc, ht.map, ht.accesses⟩⟩
    rw [hbc, hend]
    rfl
  · have hmore : k + 1 ≠ count := fun h => hend (hlast.mpr h)
    refine ⟨_, hex.trans (congrArg _ (if_neg hend)), .inr ⟨nofun, by omega, ?_, by simp [hupc]⟩⟩
    exact ⟨ht.target, ht.source, ht.count, ht.copied, ht.kept, ht.map, ht.accesses, ht.flags⟩

end Sys2Proof.Machine

/-! PROOF. Arithmetic (42_arithmetic.md): the eight operations of R234, INC and DEC, decimal adjustment,
multiplication and division, MULA, MINC and MDEC. -/

namespace Sys2Proof.Machine

/-! ### One write and then the flags, with nothing drawn -/

theorem wroteReg_writeSel_setFlags (s : State) {z : Size} {c : RegSel} (v : BitVec z.bits) (f : Flags)
    (h : c.alignedAt z = true) : WroteReg s ((s.writeSel z c v).setFlags f) z c v f :=
  wroteReg_writeSel s v f 0 h

theorem wroteMem_store_setFlags (s : State) {z : Size} (a : Addr) (v : BitVec z.bits) (f : Flags) :
    WroteMem s ((s.store z a v).setFlags f) z a v f :=
  wroteMem_store s a v f 0

/-! ### ADD, ADC, SUB, SBC, AND, XOR, OR, CP -/

section
variable (s : State) (op : AluOp) (z : Size) (R : BitVec 3) (r : RegOp) (m : MemOp)

theorem exec_formRr :
    exec (formRr op z R r) s = .next (s.aluReg op z (shortSel z R) (s.readReg z r)) := by
  cases op <;> rfl

theorem exec_formImmB (i : BitVec 8) :
    exec (formImmB op r i) s = .next (s.aluReg op .byte (operandSel .byte r) i) := by
  cases op <;> rfl

theorem exec_formImmW (i : BitVec 16) :
    exec (formImmW op r i) s = .next (s.aluReg op .word (operandSel .word r) i) := by
  cases op <;> rfl

theorem exec_formImmL (i : BitVec 32) :
    exec (formImmL op r i) s = .next (s.aluReg op .long (operandSel .long r) i) := by
  cases op <;> rfl

theorem exec_formRMem :
    exec (formRMem op z R m) s
      = .next ((s.afterRead z m).aluReg op z (shortSel z R) (s.load z (s.ea m))) := by
  cases op <;> rfl

theorem exec_formMemR :
    exec (formMemR op z m R) s
      = .next ((s.advance m).aluMem op z (s.ea m) ((s.advance m).readShort z R)) := by
  cases op <;> rfl

theorem exec_formMemImmB (i : BitVec 8) :
    exec (formMemImmB op m i) s = .next ((s.advance m).aluMem op .byte (s.ea m) i) := by
  cases op <;> rfl

theorem exec_formMemImmW (i : BitVec 16) :
    exec (formMemImmW op m i) s = .next ((s.advance m).aluMem op .word (s.ea m) i) := by
  cases op <;> rfl

end

section
variable {s : State} {op : AluOp} {z : Size} {i : Instr}

/-- An instruction that is one of the operations on a register. -/
theorem aluReg_completes {d : RegSel} {b : BitVec z.bits} (hd : d.alignedAt z = true)
    (hx : exec i s = .next (s.aluReg op z d b)) :
    ∃ t v f, exec i s = .next t ∧ AluSpec op z (s.readSel z d) b s.flags.c v f
      ∧ WroteReg s t z d (AluStored op z (s.readSel z d) v) f := by
  obtain ⟨v, f, hspec, hwrote⟩ := aluReg_spec s op b hd
  exact ⟨_, v, f, hx, hspec, hwrote⟩

/-- An instruction that is one of the operations on memory, after its addressing mode has stepped, which
leaves memory and the carry flag as they are. -/
theorem aluMem_completes {m : MemOp} {b : BitVec z.bits}
    (hx : exec i s = .next ((s.advance m).aluMem op z (s.ea m) b)) :
    ∃ t v f, exec i s = .next t ∧ AluSpec op z (s.load z (s.ea m)) b s.flags.c v f
      ∧ (if op = .cp then WroteFlags (s.afterRead z m) t f
          else WroteMem (s.afterRead z m) t z (s.ea m) v f) := by
  obtain ⟨v, f, hspec, hwrote⟩ := aluMem_spec (s.advance m) op z (s.ea m) b
  rw [State.load_advance, State.advance_flags] at hspec
  exact ⟨_, v, f, hx, hspec, hwrote⟩

end

/-- CP with a number of three bits keeps its register (42_arithmetic.md R226). -/
theorem cprNum3_completes (s : State) (z : Size) (r : RegOp) (n : BitVec 3) :
    ∃ t v f, exec (.cprNum3 z r n) s = .next t
      ∧ SubSpec z (s.readReg z r) (BitVec.ofNat z.bits n.toNat) false v f ∧ WroteFlags s t f := by
  rw [BitVec.ofNat_toNat]
  exact ⟨_, _, _, rfl, subOf_spec z _ _ false (s.freeBit 0), wroteFlags_setFlags s _ 1⟩

/-- Settles O37: every form is the one operation on a register. -/
theorem aluOnRegisters : Obligations.AluOnRegisters := by
  intro s op r
  exact ⟨fun z R => aluReg_completes (alignedAt_shortSel z R) (exec_formRr s op z R r),
    fun i h => aluReg_completes (z := .byte) (alignedAt_operandSel h) (exec_formImmB s op r i),
    fun i h => aluReg_completes (z := .word) (alignedAt_operandSel h) (exec_formImmW s op r i),
    fun i h => aluReg_completes (z := .long) (alignedAt_operandSel h) (exec_formImmL s op r i),
    fun z n => cprNum3_completes s z r n⟩

/-- Settles O38: the operation runs in the state after the read, which has the carry flag of before. -/
theorem aluFromMemory : Obligations.AluFromMemory := by
  intro s op z R m
  obtain ⟨v, f, hspec, hwrote⟩ :=
    aluReg_spec (s.afterRead z m) op (s.load z (s.ea m)) (alignedAt_shortSel z R)
  rw [State.afterRead_flags] at hspec
  exact ⟨_, v, f, exec_formRMem s op z R m, hspec, hwrote⟩

/-- Settles O39: every form is the one operation on memory. -/
theorem aluToMemory : Obligations.AluToMemory := by
  intro s op m
  exact ⟨fun z R => aluMem_completes (exec_formMemR s op z R m),
    fun i => aluMem_completes (z := .byte) (exec_formMemImmB s op m i),
    fun i => aluMem_completes (z := .word) (exec_formMemImmW s op m i)⟩

/-! ### INC and DEC -/

/-- The number field of INC and DEC: 1 to 7 as they are, and 0 for 8 (30_encoding.md R116). -/
theorem incAmount_range (n : BitVec 3) :
    incAmount n % 8 = n.toNat ∧ 1 ≤ incAmount n ∧ incAmount n ≤ 8 := by
  decide +revert

/-- The sum or difference of INC or DEC, whose carry is not taken (42_arithmetic.md R227, R228). -/
def IncSpec (down : Bool) (z : Size) (a : BitVec z.bits) (n : BitVec 3) (v : BitVec z.bits) (f : Flags) :
    Prop :=
  if down then SubSpec z a (BitVec.ofNat z.bits (incAmount n)) false v f
  else AddSpec z a (BitVec.ofNat z.bits (incAmount n)) false v f

/-- What INC and DEC compute: the flags are those of the operation but for C, which is kept. -/
theorem incOf_spec (s : State) (down : Bool) (z : Size) (n : BitVec 3) (a : BitVec z.bits) :
    ∃ f, IncSpec down z a n (s.incOf down z n a).value f
      ∧ (s.incOf down z n a).flags = { f with c := s.flags.c } := by
  cases down with
  | false => exact ⟨_, addOf_spec z a _ false false, rfl⟩
  | true => exact ⟨_, subOf_spec z a _ false false, rfl⟩

section
variable {s : State} {down : Bool} {z : Size} {n : BitVec 3} {i : Instr}

/-- INC or DEC of a register, which writes the flags of a byte only. -/
theorem incReg_completes {d : RegSel} (hd : d.alignedAt z = true)
    (hx : exec i s = .next (s.incReg down z n d)) :
    ∃ t v f, exec i s = .next t ∧ IncSpec down z (s.readSel z d) n v f
      ∧ WroteReg s t z d v (if z = .byte then { f with c := s.flags.c } else s.flags) := by
  obtain ⟨f, hspec, hf⟩ := incOf_spec s down z n (s.readSel z d)
  refine ⟨_, _, f, hx, hspec, ?_⟩
  rw [← hf]
  cases z with
  | byte => exact wroteReg_writeSel_setFlags s _ _ hd
  | word | long => exact wroteReg_writeSel_plain s _ hd

/-- INC or DEC of memory, after the addressing mode has stepped. -/
theorem incMem_completes {m : MemOp} (hx : exec i s = .next ((s.advance m).incMem down z n (s.ea m))) :
    ∃ t v f, exec i s = .next t ∧ IncSpec down z (s.load z (s.ea m)) n v f
      ∧ WroteMem (s.afterRead z m) t z (s.ea m) v { f with c := s.flags.c } := by
  obtain ⟨f, hspec, hf⟩ := incOf_spec (s.advance m) down z n (s.load z (s.ea m))
  rw [State.advance_flags] at hf
  rw [State.incMem, State.load_advance] at hx
  refine ⟨_, _, f, hx, hspec, ?_⟩
  rw [← hf]
  exact wroteMem_store_setFlags (s.afterRead z m) (s.ea m) _ _

end

/-- Settles O41: INC and DEC are one operation up and down, on a register and on memory. -/
theorem incrementAndDecrement : Obligations.IncrementAndDecrement := by
  intro s n
  exact ⟨fun z r h => incReg_completes (down := false) (alignedAt_operandSel h) rfl,
    fun z r h => incReg_completes (down := true) (alignedAt_operandSel h) rfl,
    fun z m _ => incMem_completes (down := false) rfl, fun z m _ => incMem_completes (down := true) rfl,
    incAmount_range n⟩

/-! ### DAA: the rows of the table of R232 -/

theorem daaCovers_iff {f : Flags} {d : BitVec 8} {r : DaaRow} : daaCovers f d r = true ↔
    r.n = f.n ∧ r.c = f.c ∧ r.h = f.h ∧ r.upperFrom ≤ d.toNat / 16 ∧ d.toNat / 16 ≤ r.upperTo
      ∧ r.lowerFrom ≤ d.toNat % 16 ∧ d.toNat % 16 ≤ r.lowerTo := by
  simp [daaCovers, and_assoc]

/-- Two rows differ in a flag, or their digits lie apart. -/
theorem daaTable_apart : ∀ r ∈ daaTable, ∀ q ∈ daaTable, r = q
    ∨ r.n ≠ q.n ∨ r.c ≠ q.c ∨ r.h ≠ q.h
    ∨ r.upperTo < q.upperFrom ∨ q.upperTo < r.upperFrom
    ∨ r.lowerTo < q.lowerFrom ∨ q.lowerTo < r.lowerFrom := by
  decide

/-- After an addition a row adds 6 to a digit that is too large or has carried: the lower one by itself, the
upper one exactly if there is a carry. -/
theorem daaTable_addition : ∀ r ∈ daaTable, r.n = false →
    r.added = (if r.h = true ∨ 9 < r.lowerFrom then 0x06#8 else 0x00#8)
        + (if r.carry = true then 0x60#8 else 0x00#8)
      ∧ (9 < r.lowerFrom ∨ r.lowerTo ≤ 9)
      ∧ (if r.carry = true then r.c = true ∨ 0x99 < 16 * r.upperFrom + r.lowerFrom
          else r.c = false ∧ 16 * r.upperTo + r.lowerTo ≤ 0x99) := by
  decide

/-- After a subtraction a row takes 6 from each digit that has borrowed. -/
theorem daaTable_subtraction : ∀ r ∈ daaTable, r.n = true →
    r.added = (if r.h = true then 0xFA#8 else 0x00#8) + (if r.c = true then 0xA0#8 else 0x00#8)
      ∧ r.carry = r.c := by
  decide

section
variable {f : Flags} {d : BitVec 8} {row : DaaRow}

/-- No value is covered by two rows, so a row that covers it is the one that DAA takes. -/
theorem daaRow_eq_some (hrow : row ∈ daaTable) (hcov : daaCovers f d row = true) :
    daaRow f d = some row := by
  obtain ⟨q, hq⟩ : ∃ q, daaTable.find? (daaCovers f d) = some q :=
    Option.isSome_iff_exists.mp (List.find?_isSome.mpr ⟨row, hrow, hcov⟩)
  have hapart := daaTable_apart row hrow q (List.mem_of_find?_eq_some hq)
  obtain ⟨hn, hc, hh, hu⟩ := daaCovers_iff.mp hcov
  obtain ⟨hn', hc', hh', hu'⟩ := daaCovers_iff.mp (List.find?_some hq)
  rw [hn, hc, hh, hn', hc', hh'] at hapart
  have heq : row = q := by
    simp only [ne_eq, not_true_eq_false, false_or] at hapart
    exact hapart.resolve_right (by omega)
  rw [daaRow, hq, heq]

/-- The closed form of a row after an addition. -/
theorem daaRow_addition (hrow : row ∈ daaTable) (hcov : daaCovers f d row = true) (hn : f.n = false) :
    row.added = (if f.h = true ∨ 9 < d.toNat % 16 then 0x06#8 else 0x00#8)
        + (if f.c = true ∨ 0x99 < d.toNat then 0x60#8 else 0x00#8)
      ∧ (row.carry = true ↔ f.c = true ∨ 0x99 < d.toNat) := by
  obtain ⟨hn', hc, hh, hu⟩ := daaCovers_iff.mp hcov
  obtain ⟨hadd, hlow, hhigh⟩ := daaTable_addition row hrow (hn'.trans hn)
  have hlower : 9 < row.lowerFrom ↔ 9 < d.toNat % 16 := by omega
  have hcarry : row.carry = true ↔ f.c = true ∨ 0x99 < d.toNat := by
    rw [hc] at hhigh
    cases hk : row.carry <;> simp only [hk, if_true, Bool.false_eq_true, if_false] at hhigh
    · simp only [hhigh.1, Bool.false_eq_true, false_iff, false_or]
      omega
    · simp only [true_iff]
      exact hhigh.imp_right fun _ => by omega
  simp only [hadd, hh, hlower, hcarry, true_and]

/-- The closed form of a row after a subtraction. -/
theorem daaRow_subtraction (hrow : row ∈ daaTable) (hcov : daaCovers f d row = true) (hn : f.n = true) :
    row.added = (if f.h = true then 0xFA#8 else 0x00#8) + (if f.c = true then 0xA0#8 else 0x00#8)
      ∧ row.carry = f.c := by
  obtain ⟨hn', hc, hh, -⟩ := daaCovers_iff.mp hcov
  rw [← hc, ← hh]
  exact daaTable_subtraction row hrow (hn'.trans hn)

end

/-! ### DAA -/

section
variable {s : State} {r : RegOp}

theorem alignedAt_byte (c : RegSel) : c.alignedAt .byte = true := rfl

/-- DAA where a row covers the value: what the row gives. -/
theorem exec_daa_of_covered {row : DaaRow} (hrow : row ∈ daaTable)
    (hcov : daaCovers s.flags (s.readReg .byte r) row = true) :
    exec (.daa r) s = .next (((s.writeReg .byte r (daaApply s.flags (s.readReg .byte r) row).value).setFlags
      (daaApply s.flags (s.readReg .byte r) row).flags).drew 6) := by
  simp only [exec, execDaa, daaRow_eq_some hrow hcov]

/-- DAA where no row covers the value: a free value and free flags, but for N. -/
theorem exec_daa_of_open (h : daaRow s.flags (s.readReg .byte r) = none) :
    ∃ f, f.n = s.flags.n ∧ exec (.daa r) s
      = .next (((s.writeReg .byte r (s.freeValue 0 .byte)).setFlags f).drew 6) := by
  simp only [exec, execDaa, h]
  refine ⟨_, ?_, rfl⟩
  rfl

end

/-- Settles O43: at most one row covers the value, and its addend and carry have a closed form. -/
theorem decimalAdjust : Obligations.DecimalAdjust := by
  intro s r d
  cases hfind : daaRow s.flags d with
  | none =>
    obtain ⟨f, hn, hx⟩ := exec_daa_of_open hfind
    refine ⟨_, _, f, hx, wroteReg_writeSel s _ f 6 (alignedAt_byte _), hn, fun row hrow hcov => ?_⟩
    rw [daaRow_eq_some hrow hcov] at hfind
    cases hfind
  | some q =>
    have hq := List.mem_of_find?_eq_some hfind
    have hqcov := List.find?_some hfind
    refine ⟨_, _, _, exec_daa_of_covered hq hqcov, wroteReg_writeSel s _ _ 6 (alignedAt_byte _), rfl,
      fun row hrow hcov => ?_⟩
    obtain rfl : q = row := Option.some.inj (hfind.symm.trans (daaRow_eq_some hrow hcov))
    refine ⟨rfl, rfl, signZero_of .byte _ rfl rfl, parityEven_iff .byte _, decide_eq_true_iff,
      fun hn => ?add, fun hn => ?sub⟩
    case add =>
      obtain ⟨hadd, hcarry⟩ := daaRow_addition hrow hcov hn
      exact ⟨(congrArg (d + ·) hadd).trans (BitVec.add_assoc ..).symm, hcarry⟩
    case sub =>
      obtain ⟨hadd, hcarry⟩ := daaRow_subtraction hrow hcov hn
      exact ⟨(congrArg (d + ·) hadd).trans (BitVec.add_assoc ..).symm, hcarry⟩

/-! ### DAA after an operation on decimal bytes -/

section
variable {f : Flags} {d : BitVec 8}

/-- The rows after an addition: an upper digit that has carried is 2 at most, or 3 with a carry from the lower
one, and a lower digit that has carried is 3 at most. -/
theorem exists_daaRow_addition (hn : f.n = false) (hl : f.h = true → d.toNat % 16 ≤ 3)
    (hu : f.c = true → d.toNat / 16 ≤ 3 ∧ (f.h = false → d.toNat / 16 ≤ 2)) :
    ∃ row ∈ daaTable, daaCovers f d row = true := by
  have hd := d.isLt
  by_contra hno
  simp only [daaTable, List.exists_mem_cons_iff, List.not_mem_nil, false_and, exists_false, daaCovers_iff, hn,
    not_or] at hno
  cases hc : f.c with
  | false | true =>
    cases hh : f.h with
    | false | true =>
      simp [hc, hh] at hno hl hu
      omega

/-- The rows after a subtraction: a lower digit is 9 at most, or has borrowed and is 6 at least; an upper digit
so too, with a borrow from the lower one counted in. -/
theorem exists_daaRow_subtraction (hn : f.n = true)
    (hl : if f.h = true then 6 ≤ d.toNat % 16 else d.toNat % 16 ≤ 9)
    (hu : if f.c = true then 7 ≤ d.toNat / 16 + f.h.toNat else d.toNat / 16 + f.h.toNat ≤ 9) :
    ∃ row ∈ daaTable, daaCovers f d row = true := by
  have hd := d.isLt
  by_contra hno
  simp only [daaTable, List.exists_mem_cons_iff, List.not_mem_nil, false_and, exists_false, daaCovers_iff, hn,
    not_or] at hno
  cases hc : f.c with
  | false | true =>
    cases hh : f.h with
    | false | true =>
      simp [hc, hh] at hno hl hu
      omega

end

theorem toNat_add_corrections (d x y : BitVec 8) (p q : Prop) [Decidable p] [Decidable q] :
    (d + (if p then x else 0#8) + (if q then y else 0#8)).toNat
      = (d.toNat + (if p then x.toNat else 0) + (if q then y.toNat else 0)) % 256 := by
  split <;> split <;> bv_omega

/-- The two digits of a decimal byte. -/
theorem IsBcd.digits {b : BitVec 8} (h : IsBcd b) :
    ∃ u l, u ≤ 9 ∧ l ≤ 9 ∧ b.toNat % 16 = l ∧ b.toNat = 16 * u + l ∧ bcdValue b = 10 * u + l :=
  ⟨_, _, h.1, h.2, rfl, (Nat.div_add_mod ..).symm, rfl⟩

/-- A byte with two decimal digits. -/
theorem isBcd_of_digits {b : BitVec 8} {u l : Nat} (hu : u ≤ 9) (hl : l ≤ 9) (h : b.toNat = 16 * u + l) :
    IsBcd b ∧ bcdValue b = 10 * u + l := by
  simp only [IsBcd, bcdValue, h]
  omega

/-- A sum of decimal bytes by its digits: the lower ones come to the digit `l` and the carry `k0`, the upper
ones to `y`, which with that carry comes to the digit `u` and the carry `k1`. -/
structure DigitSum (y k0 k1 u l : Nat) : Prop where
  lowCarry : k0 = 0 ∨ k0 = 1
  highCarry : k1 = 0 ∨ k1 = 1
  low : l ≤ 9
  high : u ≤ 9
  uppers : y ≤ 18
  sum : y + k0 = 10 * k1 + u

/-- Two decimal digits and a carry give a digit and a carry. -/
theorem exists_digit_sum {x y c : Nat} (hx : x ≤ 9) (hy : y ≤ 9) (hc : c ≤ 1) :
    ∃ k l, (k = 0 ∨ k = 1) ∧ l ≤ 9 ∧ x + y + c = 10 * k + l :=
  ⟨(x + y + c) / 10, (x + y + c) % 10, by omega, by omega, by omega⟩

/-- The binary and the decimal sum of two decimal bytes, by the digits of the decimal one. -/
theorem exists_digitSum {a b : BitVec 8} {c : Nat} (ha : IsBcd a) (hb : IsBcd b) (hc : c ≤ 1) :
    ∃ y k0 k1 u l, DigitSum y k0 k1 u l ∧ a.toNat % 16 + b.toNat % 16 + c = 10 * k0 + l
      ∧ a.toNat + b.toNat + c = 16 * y + (10 * k0 + l)
      ∧ bcdValue a + bcdValue b + c = 100 * k1 + (10 * u + l) := by
  obtain ⟨a1, a0, ha1, ha0, hal, ha, hav⟩ := ha.digits
  obtain ⟨b1, b0, hb1, hb0, hbl, hb, hbv⟩ := hb.digits
  obtain ⟨k0, l, hk0, hl, hlow⟩ := exists_digit_sum ha0 hb0 hc
  obtain ⟨k1, u, hk1, hu, hhigh⟩ := exists_digit_sum ha1 hb1 (by omega : k0 ≤ 1)
  rw [hal, hbl, ha, hb, hav, hbv]
  exact ⟨a1 + b1, k0, k1, u, l, ⟨hk0, hk1, hl, hu, by omega, hhigh⟩, hlow, by omega, by omega⟩

/-- A difference of decimal bytes by its digits: `u` and `l`, with the borrows `k1` and `k0`. -/
structure DigitDifference (k0 k1 u l : Nat) : Prop where
  lowBorrow : k0 = 0 ∨ k0 = 1
  highBorrow : k1 = 0 ∨ k1 = 1
  low : l ≤ 9
  high : u ≤ 9
  range : k1 ≤ u + k0 ∧ u + k0 ≤ 9 + k1

/-- A decimal digit less a digit and a borrow gives a digit and a borrow. -/
theorem exists_digit_difference {x y c : Nat} (hx : x ≤ 9) (hy : y ≤ 9) (hc : c ≤ 1) :
    ∃ k l, (k = 0 ∨ k = 1) ∧ l ≤ 9 ∧ x + 10 * k = y + c + l ∧ (x < y + c ↔ k = 1) := by
  by_cases h : x < y + c
  · exact ⟨1, x + 10 - y - c, by omega, by omega, by omega, by omega⟩
  · exact ⟨0, x - y - c, by omega, by omega, by omega, by omega⟩

/-- The binary and the decimal difference of two decimal bytes, by the digits of the decimal one: each borrow
takes 16 where it is worth 10. -/
theorem exists_digitDifference {a b : BitVec 8} {c : Nat} (ha : IsBcd a) (hb : IsBcd b) (hc : c ≤ 1) :
    ∃ k0 k1 u l, DigitDifference k0 k1 u l ∧ (a.toNat % 16 < b.toNat % 16 + c ↔ k0 = 1)
      ∧ (a.toNat : Int) - b.toNat - c
        = ((16 * (u + 6 * k1) + (l + 6 * k0) : Nat) : Int) + 256 * (-k1 : Int)
      ∧ bcdValue a + 100 * k1 = bcdValue b + c + (10 * u + l) := by
  obtain ⟨a1, a0, ha1, ha0, hal, ha, hav⟩ := ha.digits
  obtain ⟨b1, b0, hb1, hb0, hbl, hb, hbv⟩ := hb.digits
  obtain ⟨k0, l, hk0, hl, hlow, hborrow⟩ := exists_digit_difference ha0 hb0 hc
  obtain ⟨k1, u, hk1, hu, hhigh, -⟩ := exists_digit_difference ha1 hb1 (by omega : k0 ≤ 1)
  rw [hal, hbl, ha, hb, hav, hbv]
  clear hal hbl ha hb hav hbv
  exact ⟨k0, k1, u, l, ⟨hk0, hk1, hl, hu, by omega⟩, hborrow, by omega, by omega⟩

/-- The binary difference is less than 0 exactly if the upper digit borrows. -/
theorem DigitDifference.neg_iff {k0 k1 u l : Nat} (h : DigitDifference k0 k1 u l) :
    ((16 * (u + 6 * k1) + (l + 6 * k0) : Nat) : Int) + 256 * (-k1 : Int) < 0 ↔ k1 = 1 := by
  obtain ⟨hk0, rfl | rfl, hl, hu, -⟩ := h <;> omega

theorem bcdValue_lt {b : BitVec 8} (h : IsBcd b) : bcdValue b < 100 := by
  simp only [IsBcd, bcdValue] at *
  omega

/-- What the carry of two decimal bytes says. -/
theorem decimal_sum_of_carry {x k v : Nat} (hk : k = 0 ∨ k = 1) (hv : v < 100) (h : x = 100 * k + v) :
    v = x % 100 ∧ (k = 1 ↔ 100 ≤ x) := by
  omega

/-- What the borrow of two decimal bytes says. -/
theorem decimal_difference_of_borrow {x y c k v : Nat} (hx : x < 100) (hy : y + c ≤ 100) (hv : v < 100)
    (h : x + 100 * k = y + c + v) : v = (x + 100 - y - c) % 100 ∧ (k = 1 ↔ x < y + c) := by
  omega

section
variable {s : State} {r : RegOp} {a b d : BitVec 8} {cin : Bool}

/-- What DAA leaves after an addition, where a row covers the value. -/
theorem exec_daa_addition (hd : s.readReg .byte r = d) (hn : s.flags.n = false)
    (hcov : ∃ row ∈ daaTable, daaCovers s.flags d row = true) :
    ∃ t, ∃ v : BitVec 8, exec (.daa r) s = .next t ∧ t.readReg .byte r = v
      ∧ v.toNat = (d.toNat + (if s.flags.h = true ∨ 9 < d.toNat % 16 then 0x06 else 0)
          + (if s.flags.c = true ∨ 0x99 < d.toNat then 0x60 else 0)) % 256
      ∧ (t.flags.c = true ↔ s.flags.c = true ∨ 0x99 < d.toNat) := by
  obtain ⟨row, hrow, hcov⟩ := hcov
  obtain ⟨t, v, f, hx, ⟨hread, hflags, -⟩, -, hdaa⟩ := decimalAdjust s r
  simp only [hd] at hdaa
  obtain ⟨-, -, -, -, -, hadd, -⟩ := hdaa row hrow hcov
  obtain ⟨hv, hc⟩ := hadd hn
  exact ⟨t, v, hx, hread, hv ▸ toNat_add_corrections .., hflags ▸ hc⟩

/-- What DAA leaves after a subtraction, where a row covers the value. -/
theorem exec_daa_subtraction (hd : s.readReg .byte r = d) (hn : s.flags.n = true)
    (hcov : ∃ row ∈ daaTable, daaCovers s.flags d row = true) :
    ∃ t, ∃ v : BitVec 8, exec (.daa r) s = .next t ∧ t.readReg .byte r = v
      ∧ v.toNat = (d.toNat + (if s.flags.h = true then 0xFA else 0)
          + (if s.flags.c = true then 0xA0 else 0)) % 256
      ∧ t.flags.c = s.flags.c := by
  obtain ⟨row, hrow, hcov⟩ := hcov
  obtain ⟨t, v, f, hx, ⟨hread, hflags, -⟩, -, hdaa⟩ := decimalAdjust s r
  simp only [hd] at hdaa
  obtain ⟨-, -, -, -, -, -, hsub⟩ := hdaa row hrow hcov
  obtain ⟨hv, hc⟩ := hsub hn
  exact ⟨t, v, hx, hread, hv ▸ toNat_add_corrections .., hflags ▸ hc⟩

/-- DAA raises by 6 each digit of a sum that carries. -/
theorem exec_daa_of_digitSum {y k0 k1 u l : Nat} (hs : DigitSum y k0 k1 u l) (hd : s.readReg .byte r = d)
    (hv : d.toNat = (16 * y + (10 * k0 + l)) % 256) (hn : s.flags.n = false)
    (hh : s.flags.h = true ↔ 15 < 10 * k0 + l) (hc : s.flags.c = true ↔ 256 ≤ 16 * y + (10 * k0 + l)) :
    ∃ t, ∃ w : BitVec 8, exec (.daa r) s = .next t ∧ t.readReg .byte r = w ∧ w.toNat = 16 * u + l
      ∧ (t.flags.c = true ↔ k1 = 1) := by
  obtain ⟨hk0, hk1, hl, hu, hy, hyu⟩ := hs
  have hcov : ∃ row ∈ daaTable, daaCovers s.flags d row = true := by
    refine exists_daaRow_addition hn (fun h15 => ?_) fun h256 => ⟨?_, fun h15 => ?_⟩
    · rw [hh] at h15
      omega
    · rw [hc] at h256
      omega
    · rw [Bool.eq_false_iff, ne_eq, hh] at h15
      rw [hc] at h256
      omega
  have hlow : (s.flags.h = true ∨ 9 < d.toNat % 16) ↔ k0 = 1 := by
    rw [hh]
    omega
  have hhigh : (s.flags.c = true ∨ 0x99 < d.toNat) ↔ k1 = 1 := by
    rw [hc]
    omega
  obtain ⟨t, w, hx, hread, hw, hcarry⟩ := exec_daa_addition hd hn hcov
  simp only [hlow, hhigh] at hw hcarry
  refine ⟨t, w, hx, hread, ?_, hcarry⟩
  rcases hk0 with rfl | rfl <;> rcases hk1 with rfl | rfl <;> simp at hw <;> omega

/-- DAA lowers by 6 each digit of a difference that borrows. -/
theorem exec_daa_of_digitDifference {k0 k1 u l : Nat} (hs : DigitDifference k0 k1 u l)
    (hd : s.readReg .byte r = d) (hv : d.toNat = (16 * (u + 6 * k1) + (l + 6 * k0)) % 256)
    (hn : s.flags.n = true) (hh : s.flags.h = true ↔ k0 = 1) (hc : s.flags.c = true ↔ k1 = 1) :
    ∃ t, ∃ w : BitVec 8, exec (.daa r) s = .next t ∧ t.readReg .byte r = w ∧ w.toNat = 16 * u + l
      ∧ (t.flags.c = true ↔ k1 = 1) := by
  obtain ⟨hk0, hk1, hl, hu, hrange⟩ := hs
  have hhalf : s.flags.h.toNat = k0 := by
    cases h : s.flags.h <;> simp [h] at hh ⊢ <;> omega
  have hcov : ∃ row ∈ daaTable, daaCovers s.flags d row = true := by
    refine exists_daaRow_subtraction hn ?_ ?_ <;> simp only [hh, hc, hhalf] <;> split <;> omega
  obtain ⟨t, w, hx, hread, hw, hcarry⟩ := exec_daa_subtraction hd hn hcov
  simp only [hh, hc] at hw
  refine ⟨t, w, hx, hread, ?_, hcarry ▸ hc⟩
  rcases hk0 with rfl | rfl <;> rcases hk1 with rfl | rfl <;> simp at hw <;> omega

/-- A sum of two decimal bytes is adjusted to the decimal sum. -/
theorem daa_after_addition (ha : IsBcd a) (hb : IsBcd b) (hd : s.readReg .byte r = d)
    (h : AddSpec .byte a b cin d s.flags) :
    ∃ t, ∃ w : BitVec 8, exec (.daa r) s = .next t ∧ t.readReg .byte r = w ∧ IsBcd w
      ∧ bcdValue w = (bcdValue a + bcdValue b + cin.toNat) % 100
      ∧ (t.flags.c = true ↔ 100 ≤ bcdValue a + bcdValue b + cin.toNat) := by
  obtain ⟨y, k0, k1, u, l, hs, hlow, hsum, hdec⟩ := exists_digitSum ha hb cin.toNat_le
  obtain ⟨hv, -, hh, -, hn, hc⟩ := h
  replace hh := hh nofun
  simp only [Size.bits] at hv hh hc
  rw [hlow] at hh
  rw [hsum] at hv hc
  obtain ⟨t, w, hx, hread, hw, hcarry⟩ := exec_daa_of_digitSum hs hd hv hn hh hc
  obtain ⟨hbcd, hval⟩ := isBcd_of_digits hs.high hs.low hw
  obtain ⟨hmod, hover⟩ := decimal_sum_of_carry hs.highCarry (hval ▸ bcdValue_lt hbcd) hdec
  exact ⟨t, w, hx, hread, hbcd, hval.trans hmod, hcarry.trans hover⟩

/-- A difference of two decimal bytes is adjusted to the decimal difference. -/
theorem daa_after_subtraction (ha : IsBcd a) (hb : IsBcd b) (hd : s.readReg .byte r = d)
    (h : SubSpec .byte a b cin d s.flags) :
    ∃ t, ∃ w : BitVec 8, exec (.daa r) s = .next t ∧ t.readReg .byte r = w ∧ IsBcd w
      ∧ bcdValue w = (bcdValue a + 100 - bcdValue b - cin.toNat) % 100
      ∧ (t.flags.c = true ↔ bcdValue a < bcdValue b + cin.toNat) := by
  obtain ⟨k0, k1, u, l, hs, hlow, hdiff, hdec⟩ := exists_digitDifference ha hb cin.toNat_le
  obtain ⟨hv, -, hh, -, hn, hc⟩ := h
  replace hh := hh nofun
  simp only [Size.bits] at hv hh hc
  rw [hlow] at hh
  rw [hdiff] at hv hc
  rw [hs.neg_iff] at hc
  rw [show (2 ^ 8 : Int) = 256 from rfl, Int.add_mul_emod_self_left] at hv
  obtain ⟨t, w, hx, hread, hw, hcarry⟩ := exec_daa_of_digitDifference hs hd (by exact_mod_cast hv) hn hh hc
  obtain ⟨hbcd, hval⟩ := isBcd_of_digits hs.high hs.low hw
  have hroom : bcdValue b + cin.toNat ≤ 100 :=
    Nat.add_le_add (Nat.le_of_lt_succ (bcdValue_lt hb)) cin.toNat_le
  obtain ⟨hmod, hunder⟩ :=
    decimal_difference_of_borrow (bcdValue_lt ha) hroom (hval ▸ bcdValue_lt hbcd) hdec
  exact ⟨t, w, hx, hread, hbcd, hval.trans hmod, hcarry.trans hunder⟩

end

/-- Settles O44: the operation leaves a sum or a difference, which DAA adjusts. -/
theorem decimalArithmetic : Obligations.DecimalArithmetic := by
  intro s R r ha hb a b c op hop
  obtain ⟨t, v, f, hx, hspec, hread, rfl, -, -⟩ :=
    aluReg_completes (alignedAt_shortSel .byte R) (exec_formRr s op .byte R r)
  simp only [List.mem_cons, List.not_mem_nil, or_false] at hop
  rcases hop with rfl | rfl | rfl | rfl
  · obtain ⟨u, w, hdaa, rfl, hbcd, hval, hc⟩ := daa_after_addition (r := .short R) ha hb hread hspec
    exact ⟨t, u, hx, hdaa, hbcd, fun _ => ⟨hval, hc⟩, nofun, nofun, nofun⟩
  · obtain ⟨u, w, hdaa, rfl, hbcd, hval, hc⟩ := daa_after_addition (r := .short R) ha hb hread hspec
    exact ⟨t, u, hx, hdaa, hbcd, nofun, fun _ => ⟨hval, hc⟩, nofun, nofun⟩
  · obtain ⟨u, w, hdaa, rfl, hbcd, hval, hc⟩ := daa_after_subtraction (r := .short R) ha hb hread hspec
    exact ⟨t, u, hx, hdaa, hbcd, nofun, nofun, fun _ => ⟨hval, hc⟩, nofun⟩
  · obtain ⟨u, w, hdaa, rfl, hbcd, hval, hc⟩ := daa_after_subtraction (r := .short R) ha hb hread hspec
    exact ⟨t, u, hx, hdaa, hbcd, nofun, nofun, nofun, fun _ => ⟨hval, hc⟩⟩

/-! ### The register of twice the operation size (42_arithmetic.md R241) -/

section
variable {z : Size} {R : BitVec 3} {r : RegOp}

/-- MUL and DIV have no long word size. -/
theorem bits_doubleSize (hz : z.isBW = true) : (doubleSize z).bits = 2 * z.bits := by
  cases z with
  | byte | word => rfl
  | long => cases hz

/-- The field R names the lower half of a register of twice the size. -/
theorem alignedAt_doubleSize_shortSel (h : pairField z R = true) :
    (shortSel z R).alignedAt (doubleSize z) = true := by
  cases z with
  | byte =>
    simp only [pairField] at h
    simp [shortSel, doubleSize, RegSel.alignedAt, h]
  | word => rfl
  | long => cases h

/-- The operand `rr` names the lower half of a register of twice the size. -/
theorem alignedAt_doubleSize_operandSel (h : r.pairAt z = true) :
    (operandSel z r).alignedAt (doubleSize z) = true := by
  cases r with
  | short R => exact alignedAt_doubleSize_shortSel h
  | ext c =>
    cases z with
    | byte | word => exact h
    | long => cases h

end

/-! ### MUL and MULS -/

/-- The product of two numbers of `n` bits fits in `2 * n` bits, unsigned or signed. -/
def ProductSpec (signed : Bool) (z : Size) (a b : BitVec z.bits) (v : BitVec (doubleSize z).bits) : Prop :=
  if signed then v.toInt = a.toInt * b.toInt else v.toNat = a.toNat * b.toNat

theorem productOf_spec (signed : Bool) {z : Size} (hz : z.isBW = true) (a b : BitVec z.bits) :
    ProductSpec signed z a b (productOf signed z a b) := by
  have hbits := bits_doubleSize hz
  cases signed with
  | false =>
    have hlt : a.toNat * b.toNat < 2 ^ (doubleSize z).bits := by
      rw [hbits, Nat.two_mul, Nat.pow_add]
      exact Nat.mul_lt_mul'' a.isLt b.isLt
    exact Nat.mod_eq_of_lt hlt
  | true =>
    have hle : a.toInt * b.toInt ≤ 2 ^ (z.bits * 2 - 2) := BitVec.toInt_mul_toInt_le
    have hge : -2 ^ (z.bits * 2 - 2) ≤ a.toInt * b.toInt := BitVec.le_toInt_mul_toInt
    cases z with
    | byte | word =>
      simp only [Size.bits] at hle hge
      exact BitVec.toInt_ofInt_eq_self (by decide) (by simp only [doubleSize, Size.bits]; omega)
        (by simp only [doubleSize, Size.bits]; omega)
    | long => cases hz

/-- An instruction that is a multiplication in the state `u`, after its operands are read. -/
theorem mulReg_completes {s u : State} {i : Instr} {signed : Bool} {z : Size} {d : RegSel} {b : BitVec z.bits}
    (hz : z.isBW = true) (hd : d.alignedAt (doubleSize z) = true)
    (hx : exec i s = .next (u.mulReg signed z d b)) :
    ∃ t v, exec i s = .next t ∧ ProductSpec signed z (u.readSel z d) b v
      ∧ WroteReg u t (doubleSize z) d v u.flags :=
  ⟨_, _, hx, productOf_spec signed hz _ b, wroteReg_writeSel_plain u _ hd⟩

section
variable (signed : Bool) (z : Size) (R : BitVec 3) (r : RegOp) (m : MemOp) (s : State)

theorem exec_formMul :
    exec (formMul signed z R r) s = .next (s.mulReg signed z (shortSel z R) (s.readReg z r)) := by
  cases signed <;> rfl

theorem exec_formMulMem :
    exec (formMulMem signed z R m) s
      = .next ((s.afterRead z m).mulReg signed z (shortSel z R) (s.load z (s.ea m))) := by
  cases signed <;> rfl

theorem exec_formMulImm_byte (i : BitVec 8) :
    exec (formMulImm signed r (.inl i)) s = .next (s.mulReg signed .byte (operandSel .byte r) i) := by
  cases signed <;> rfl

theorem exec_formMulImm_word (i : BitVec 16) :
    exec (formMulImm signed r (.inr i)) s = .next (s.mulReg signed .word (operandSel .word r) i) := by
  cases signed <;> rfl

variable {signed z R r m}

theorem wellFormed_formMul (h : (formMul signed z R r).wellFormed = true) :
    z.isBW = true ∧ pairField z R = true := by
  have hwf : (formMul signed z R r).wellFormed = (z.isBW && pairField z R && r.alignedAt z) := by
    cases signed <;> rfl
  rw [hwf, Bool.and_eq_true, Bool.and_eq_true] at h
  exact h.1

theorem wellFormed_formMulMem (h : (formMulMem signed z R m).wellFormed = true) :
    z.isBW = true ∧ pairField z R = true := by
  have hwf : (formMulMem signed z R m).wellFormed = (z.isBW && pairField z R && m.wellFormed) := by
    cases signed <;> rfl
  rw [hwf, Bool.and_eq_true, Bool.and_eq_true] at h
  exact h.1

theorem wellFormed_formMulImm_byte {i : BitVec 8} (h : (formMulImm signed r (.inl i)).wellFormed = true) :
    r.pairAt .byte = true := by
  have hwf : (formMulImm signed r (.inl i)).wellFormed = (r.pairAt .byte && r.alignedAt .byte) := by
    cases signed <;> rfl
  rw [hwf, Bool.and_eq_true] at h
  exact h.1

theorem wellFormed_formMulImm_word {i : BitVec 16} (h : (formMulImm signed r (.inr i)).wellFormed = true) :
    r.pairAt .word = true := by
  have hwf : (formMulImm signed r (.inr i)).wellFormed = (r.pairAt .word && r.alignedAt .word) := by
    cases signed <;> rfl
  rw [hwf, Bool.and_eq_true] at h
  exact h.1

end

theorem setWidth_byte (i : BitVec 8) : i.setWidth Size.byte.bits = i := BitVec.setWidth_eq i

theorem setWidth_word (i : BitVec 16) : i.setWidth Size.word.bits = i := BitVec.setWidth_eq i

/-- Settles O45: every form is one write of the product, after the operands are read. -/
theorem multiplyGivesProduct : Obligations.MultiplyGivesProduct := by
  intro s signed z product
  refine ⟨fun R r m i j => ?encode, fun R r h => ?reg, fun R m h => ?mem, fun r i hz h => ?immB,
    fun r i hz h => ?immW⟩
  case encode => cases signed <;> exact ⟨rfl, rfl, rfl, rfl⟩
  case reg =>
    obtain ⟨hz, hR⟩ := wellFormed_formMul h
    exact mulReg_completes hz (alignedAt_doubleSize_shortSel hR) (exec_formMul signed z R r s)
  case mem =>
    obtain ⟨hz, hR⟩ := wellFormed_formMulMem h
    rw [← s.afterRead_flags z m]
    exact mulReg_completes hz (alignedAt_doubleSize_shortSel hR) (exec_formMulMem signed z R m s)
  case immB =>
    subst hz
    rw [setWidth_byte]
    exact mulReg_completes (z := .byte) rfl (alignedAt_doubleSize_operandSel (wellFormed_formMulImm_byte h))
      (exec_formMulImm_byte signed r s i)
  case immW =>
    subst hz
    rw [setWidth_word]
    exact mulReg_completes (z := .word) rfl (alignedAt_doubleSize_operandSel (wellFormed_formMulImm_word h))
      (exec_formMulImm_word signed r s i)

/-! ### DIV and DIVS -/

section
variable {z : Size}

/-- The halves of a number made of two numbers of the operation size. -/
theorem halves_of_pair (hz : z.isBW = true) {l h : Nat} (hl : l < 2 ^ z.bits) (hh : h < 2 ^ z.bits) :
    ((BitVec.ofNat (doubleSize z).bits (l + 2 ^ z.bits * h)).extractLsb' 0 z.bits).toNat = l
      ∧ ((BitVec.ofNat (doubleSize z).bits (l + 2 ^ z.bits * h)).extractLsb' z.bits z.bits).toNat = h := by
  have hlt : l + 2 ^ z.bits * h < 2 ^ (doubleSize z).bits := by
    rw [bits_doubleSize hz, Nat.two_mul, Nat.pow_add]
    calc l + 2 ^ z.bits * h < 2 ^ z.bits * (h + 1) := by rw [Nat.mul_succ]; omega
      _ ≤ 2 ^ z.bits * 2 ^ z.bits := Nat.mul_le_mul_left _ hh
  constructor <;>
    rw [BitVec.extractLsb'_toNat, BitVec.toNat_ofNat, Nat.mod_eq_of_lt hlt, Nat.shiftRight_eq_div_pow]
  · rw [Nat.pow_zero, Nat.div_one, Nat.add_mul_mod_self_left, Nat.mod_eq_of_lt hl]
  · rw [Nat.add_mul_div_left _ _ (Nat.two_pow_pos _), Nat.div_eq_of_lt hl, Nat.zero_add, Nat.mod_eq_of_lt hh]

theorem quotientOf_spec (hz : z.isBW = true) (a : BitVec (doubleSize z).bits) (b : BitVec z.bits)
    (free : BitVec (doubleSize z).bits) :
    DivSpec false z a b ((quotientOf z a b).getD free) (quotientOf z a b).isNone := by
  by_cases hnone : b = 0 ∨ 2 ^ z.bits ≤ a.toNat / b.toNat
  · have hq : quotientOf z a b = none := if_pos hnone
    simp only [DivSpec, Bool.false_eq_true, if_false, if_pos hnone, hq, Option.isNone_none]
  · have hq : quotientOf z a b = some _ := if_neg hnone
    simp only [DivSpec, Bool.false_eq_true, if_false, if_neg hnone, hq, Option.isNone_some, Option.getD_some,
      true_and]
    obtain ⟨hb, hlt⟩ := not_or.mp hnone
    have hpos : 0 < b.toNat := Nat.pos_of_ne_zero fun h => hb (BitVec.eq_of_toNat_eq h)
    exact halves_of_pair hz (Nat.lt_of_not_le hlt) ((Nat.mod_lt _ hpos).trans b.isLt)

/-- The signed remainder is less than the divisor, so it fits. -/
theorem toInt_remainder (x : Int) {b : BitVec z.bits} (hb : b ≠ 0) :
    (BitVec.ofInt z.bits (x.tmod b.toInt)).toInt = x.tmod b.toInt := by
  have hlt : (x.tmod b.toInt).natAbs < b.toInt.natAbs := by
    rw [Int.natAbs_tmod]
    exact Nat.mod_lt _ (Int.natAbs_pos.mpr fun h => hb (BitVec.eq_of_toInt_eq (by simpa using h)))
  have hle := b.le_toInt
  have hge := b.toInt_lt
  refine BitVec.toInt_ofInt_eq_self ?_ ?_ ?_ <;> cases z <;> simp only [Size.bits] at * <;> omega

theorem signedQuotientOf_spec (hz : z.isBW = true) (a : BitVec (doubleSize z).bits) (b : BitVec z.bits)
    (free : BitVec (doubleSize z).bits) :
    DivSpec true z a b ((signedQuotientOf z a b).getD free) (signedQuotientOf z a b).isNone := by
  by_cases hnone : b = 0 ∨ a.toInt.tdiv b.toInt < -(2 ^ (z.bits - 1) : Int)
      ∨ (2 ^ (z.bits - 1) : Int) ≤ a.toInt.tdiv b.toInt
  · have hq : signedQuotientOf z a b = none := if_pos (by rwa [gt_iff_lt, Int.sub_one_lt_iff])
    simp only [DivSpec, if_true, if_pos hnone, hq, Option.isNone_none]
  · have hq : signedQuotientOf z a b = some _ := if_neg (by rwa [gt_iff_lt, Int.sub_one_lt_iff])
    simp only [DivSpec, if_true, if_neg hnone, hq, Option.isNone_some, Option.getD_some, true_and]
    obtain ⟨hb, hrange⟩ := not_or.mp hnone
    obtain ⟨hlow, hhigh⟩ := halves_of_pair hz (BitVec.ofInt z.bits (a.toInt.tdiv b.toInt)).isLt
      (BitVec.ofInt z.bits (a.toInt.tmod b.toInt)).isLt
    rw [BitVec.eq_of_toNat_eq hlow, BitVec.eq_of_toNat_eq hhigh]
    have hpos : 0 < z.bits := by cases z <;> decide
    exact ⟨BitVec.toInt_ofInt_eq_self hpos (by omega) (by omega), toInt_remainder _ hb⟩

end

/-- An instruction that is a division in the state `u`, after its operands are read. -/
theorem divReg_completes {s u : State} {i : Instr} {signed : Bool} {z : Size} {d : RegSel} {b : BitVec z.bits}
    (hz : z.isBW = true) (hd : d.alignedAt (doubleSize z) = true)
    (hx : exec i s = .next (u.divReg signed z d b)) :
    ∃ t v o, exec i s = .next t ∧ DivSpec signed z (u.readSel (doubleSize z) d) b v o
      ∧ WroteReg u t (doubleSize z) d v { u.flags with v := o } := by
  cases signed with
  | false => exact ⟨_, _, _, hx, quotientOf_spec hz _ b _, wroteReg_writeSel u _ _ 1 hd⟩
  | true => exact ⟨_, _, _, hx, signedQuotientOf_spec hz _ b _, wroteReg_writeSel u _ _ 1 hd⟩

section
variable (signed : Bool) (z : Size) (R : BitVec 3) (r : RegOp) (m : MemOp) (s : State)

theorem exec_formDiv :
    exec (formDiv signed z R r) s = .next (s.divReg signed z (shortSel z R) (s.readReg z r)) := by
  cases signed <;> rfl

theorem exec_formDivMem :
    exec (formDivMem signed z R m) s
      = .next ((s.afterRead z m).divReg signed z (shortSel z R) (s.load z (s.ea m))) := by
  cases signed <;> rfl

theorem exec_formDivImm_byte (i : BitVec 8) :
    exec (formDivImm signed r (.inl i)) s = .next (s.divReg signed .byte (operandSel .byte r) i) := by
  cases signed <;> rfl

theorem exec_formDivImm_word (i : BitVec 16) :
    exec (formDivImm signed r (.inr i)) s = .next (s.divReg signed .word (operandSel .word r) i) := by
  cases signed <;> rfl

/-! A division is well-formed where the multiplication with its operands is. -/

theorem wellFormed_formDiv : (formDiv signed z R r).wellFormed = (formMul signed z R r).wellFormed := by
  cases signed <;> rfl

theorem wellFormed_formDivMem :
    (formDivMem signed z R m).wellFormed = (formMulMem signed z R m).wellFormed := by
  cases signed <;> rfl

theorem wellFormed_formDivImm (i : BitVec 8 ⊕ BitVec 16) :
    (formDivImm signed r i).wellFormed = (formMulImm signed r i).wellFormed := by
  cases i <;> cases signed <;> rfl

end

/-- Settles O46: every form is one write of quotient and remainder, or of a free value, after the operands are
read. -/
theorem divideGivesQuotientAndRemainder : Obligations.DivideGivesQuotientAndRemainder := by
  intro s signed z
  refine ⟨fun R r h => ?reg, fun R m h => ?mem, fun r i hz h => ?immB, fun r i hz h => ?immW⟩
  case reg =>
    rw [wellFormed_formDiv] at h
    obtain ⟨hz, hR⟩ := wellFormed_formMul h
    exact divReg_completes hz (alignedAt_doubleSize_shortSel hR) (exec_formDiv signed z R r s)
  case mem =>
    rw [wellFormed_formDivMem] at h
    obtain ⟨hz, hR⟩ := wellFormed_formMulMem h
    rw [← s.afterRead_flags z m]
    exact divReg_completes hz (alignedAt_doubleSize_shortSel hR) (exec_formDivMem signed z R m s)
  case immB =>
    subst hz
    rw [wellFormed_formDivImm] at h
    rw [setWidth_byte]
    exact divReg_completes (z := .byte) rfl (alignedAt_doubleSize_operandSel (wellFormed_formMulImm_byte h))
      (exec_formDivImm_byte signed r s i)
  case immW =>
    subst hz
    rw [wellFormed_formDivImm] at h
    rw [setWidth_word]
    exact divReg_completes (z := .word) rfl (alignedAt_doubleSize_operandSel (wellFormed_formMulImm_word h))
      (exec_formDivImm_word signed r s i)

/-! ### MULA -/

section
variable {z : Size} {a b v : BitVec z.bits} {f : Flags}

/-- The sum that `add_n` gives without carry is the machine's own. -/
theorem AddSpec.value_eq (h : AddSpec z a b false v f) : v = a + b := by
  obtain ⟨hv, -⟩ := h
  refine BitVec.eq_of_toNat_eq ?_
  rw [hv, BitVec.toNat_add, Bool.toNat_false, Nat.add_zero]

/-- V after an addition is two's-complement overflow of the exact sum (log entry 14). -/
theorem AddSpec.overflow_iff (h : AddSpec z a b false v f) : f.v = true ↔
    a.toInt + b.toInt < -(2 ^ (z.bits - 1) : Int) ∨ (2 ^ (z.bits - 1) : Int) ≤ a.toInt + b.toInt := by
  obtain rfl := h.value_eq
  obtain ⟨-, -, -, hv, -⟩ := h
  have hmsb : (a.msb = b.msb ∧ (a + b).msb ≠ a.msb) ↔ a.saddOverflow b = true := by
    simp [BitVec.saddOverflow_eq]
  rw [hv, hmsb]
  simp [BitVec.saddOverflow, or_comm]

end

/-- The registers after a register is written and XHL lowered by 2, which may be that register. -/
theorem State.readLong_lowered (s : State) (d : LongReg) (v : BitVec 32) :
    let u := s.writeLong d v
    let t := u.writeLong longXHL (u.readLong longXHL - 2#32)
    if gprIndex s.rfp d = gprIndex s.rfp longXHL then t.readLong longXHL = v - 2#32
    else t.readLong d = v ∧ t.readLong longXHL = s.readLong longXHL - 2#32 := by
  intro u t
  have hXHL : t.readLong longXHL = u.readLong longXHL - 2#32 := State.readLong_writeLong_same ..
  have hu : u.readLong longXHL = if gprIndex s.rfp longXHL = gprIndex s.rfp d then v else s.readLong longXHL :=
    State.readLong_writeLong ..
  rw [hXHL, hu]
  split
  · next heq => rw [if_pos heq.symm]
  · next hne =>
    have hd : t.readLong d = u.readLong d := (State.readLong_writeLong ..).trans (if_neg hne)
    rw [if_neg (Ne.symm hne)]
    exact ⟨hd.trans (State.readLong_writeLong_same ..), rfl⟩

/-- The operand of a well-formed MULA is a whole register. -/
theorem operandSel_of_wellFormed_mula {r : RegOp} (h : (Instr.mula r).wellFormed = true) :
    ∃ d, operandSel .long r = ⟨d, 0#2⟩ := by
  have hpair : r.pairAt .word = true := Bool.and_elim_left h
  have hsel : operandSel .long r = operandSel .word r := by cases r <;> rfl
  have halign : (operandSel .long r).alignedAt .long = true :=
    hsel ▸ alignedAt_doubleSize_operandSel (z := .word) hpair
  exact ⟨(operandSel .long r).whole, by rw [← beq_iff_eq.mp halign]⟩

/-- An operand that names a whole register reads and writes it. -/
theorem State.readReg_of_whole (s : State) {r : RegOp} {d : LongReg} (hd : operandSel .long r = ⟨d, 0#2⟩) :
    s.readReg .long r = s.readLong d :=
  (congrArg (s.readSel .long) hd).trans (s.readSel_long d)

theorem State.writeReg_of_whole (s : State) {r : RegOp} {d : LongReg} (hd : operandSel .long r = ⟨d, 0#2⟩)
    (v : BitVec Size.long.bits) : s.writeReg .long r v = s.writeLong d v :=
  (congrArg (s.writeSel .long · v) hd).trans (s.writeSel_long d v)

/-- MULA of a whole register: the sum is written, and then XHL is lowered. -/
theorem exec_mula (s : State) {r : RegOp} {d : LongReg} (hd : operandSel .long r = ⟨d, 0#2⟩) :
    let x := s.load .word (s.readLong longXDE)
    let s1 := s.loaded .word (s.readLong longXDE)
    let y := s1.load .word (s.readLong longXHL)
    let sum := addOf .long (s.readLong d) (BitVec.ofInt 32 (x.toInt * y.toInt)) false false
    let u := (s1.loaded .word (s.readLong longXHL)).writeLong d sum.value
    exec (.mula r) s = .next ((u.writeLong longXHL (u.readLong longXHL - 2#32)).setFlags
      { s.flags with s := sum.flags.s, z := sum.flags.z, v := sum.flags.v }) := by
  simp only [exec, execMula, State.readReg_of_whole _ hd, State.writeReg_of_whole _ hd]

/-- Settles O47: the product of two words fits in a long word, so V shows the wrap of the exact sum. -/
theorem multiplyAccumulate : Obligations.MultiplyAccumulate := by
  intro s r h x y sum
  obtain ⟨d, hd⟩ := operandSel_of_wellFormed_mula h
  have hread (u : State) := u.readReg_of_whole hd
  have hprod : (BitVec.ofInt 32 (BitVec.toInt x * BitVec.toInt y)).toInt = BitVec.toInt x * BitVec.toInt y :=
    productOf_spec (z := .word) true rfl x y
  have hspec := addOf_spec .long (s.readLong d) (BitVec.ofInt 32 (BitVec.toInt x * BitVec.toInt y)) false false
  have hover := hspec.overflow_iff
  have hvalue := hspec.value_eq
  obtain ⟨-, hsz, -⟩ := hspec
  have hsum : (s.readLong d).toInt + (BitVec.ofInt 32 (BitVec.toInt x * BitVec.toInt y)).toInt = sum := by
    rw [hprod, ← hread s]
    rfl
  refine ⟨_, _, exec_mula s hd, ?_, ?_, hsz, ?_, rfl, rfl, rfl, rfl, ?_⟩
  · rw [hvalue, ← hsum]
    exact BitVec.toInt_add ..
  · simp only [hd, hread, State.readLong_setFlags]
    exact State.readLong_lowered ((s.loaded .word (s.readLong longXDE)).loaded .word (s.readLong longXHL)) d _
  · rw [← hsum]
    exact hover
  · rw [hd]
    exact (((frame_writeLong _ d _).trans (frame_writeLong _ longXHL _)).trans
      (frame_setFlags _ _)).mono (by simp [wholeOf]) (by simp)

/-! ### MINC and MDEC -/

/-- The least exponent that the rules list for a step: the modulo is twice the step at least. -/
def lowestExponent : Step → Nat
  | .one => 1
  | .two => 2
  | .four => 3

theorem stepAmount_toNat (k : Step) : (stepAmount k).toNat = 2 ^ (lowestExponent k - 1) := by
  cases k <;> rfl

theorem moduloListed_iff {k : Step} {num : Nat} :
    ModuloListed k num ↔ ∃ e, lowestExponent k ≤ e ∧ e ≤ 15 ∧ num = 2 ^ e := by
  cases k <;> rfl

/-- The machine tests what the rules list. -/
theorem validModulo_iff {k : Step} {num : Nat} :
    validModulo (lowestExponent k) num = true ↔ ModuloListed k num := by
  simp only [moduloListed_iff, validModulo, List.any_eq_true, List.mem_range, Bool.and_eq_true,
    decide_eq_true_eq, beq_iff_eq, Nat.lt_succ_iff]
  exact exists_congr fun e => and_left_comm

/-- A listed modulo is a multiple of the step and divides the range of a word. -/
theorem ModuloListed.divides {k : Step} {num : Nat} (h : ModuloListed k num) :
    (stepAmount k).toNat ∣ num ∧ (stepAmount k).toNat < num ∧ num ∣ 2 ^ 16 := by
  obtain ⟨e, hlow, hhigh, rfl⟩ := moduloListed_iff.mp h
  have hpos : 0 < lowestExponent k := by cases k <;> decide
  rw [stepAmount_toNat]
  exact ⟨Nat.pow_dvd_pow 2 (by omega), Nat.pow_lt_pow_right (by omega) (by omega),
    Nat.pow_dvd_pow 2 (by omega)⟩

section
variable {down : Bool} {k num : Nat} {d v : BitVec 16}

theorem moduloStep_spec (d : BitVec 16) (hlt : k < num) :
    ModuloSpec down k num d (moduloStep down k num d) := by
  simp only [ModuloSpec, moduloStep]
  split <;> split <;> simp only [BitVec.toNat_add, BitVec.toNat_sub, BitVec.toNat_ofNat] <;> omega

/-- A step ends at a multiple of the step inside the block it starts in, and does not wrap past the range of a
word. -/
theorem ModuloSpec.offset (h : ModuloSpec down k num d v) (hk : k ∣ num) (hd : k ∣ d.toNat) (hlt : k < num)
    (hnum : num ∣ 2 ^ 16) : ∃ r, r < num ∧ k ∣ r ∧ v.toNat = num * (d.toNat / num) + r := by
  have hdiv := Nat.div_add_mod d.toNat num
  have hr : d.toNat % num < num := Nat.mod_lt _ (by omega)
  have hkr : k ∣ d.toNat % num := (Nat.dvd_mod_iff hk).mpr hd
  have hroom : num * (d.toNat / num) + num ≤ 2 ^ 16 := by
    obtain ⟨m, hm⟩ := hnum
    rw [hm, ← Nat.mul_succ]
    exact Nat.mul_le_mul_left _ (Nat.div_lt_of_lt_mul (hm ▸ d.isLt))
  have hup : k ≤ num - d.toNat % num := Nat.le_of_dvd (by omega) (Nat.dvd_sub hk hkr)
  have hpos : 0 < k := Nat.pos_of_dvd_of_pos hk (by omega)
  rw [ModuloSpec] at h
  generalize num * (d.toNat / num) = base at *
  generalize d.toNat % num = r at *
  cases down with
  | false =>
    by_cases hlast : r = num - k
    · refine ⟨0, by omega, dvd_zero k, ?_⟩
      rw [if_neg Bool.false_ne_true, if_pos hlast] at h
      omega
    · refine ⟨r + k, by omega, (Nat.dvd_add_right hkr).mpr dvd_rfl, ?_⟩
      rw [if_neg Bool.false_ne_true, if_neg hlast] at h
      omega
  | true =>
    by_cases hfirst : r = 0
    · refine ⟨num - k, by omega, Nat.dvd_sub hk dvd_rfl, ?_⟩
      rw [if_pos rfl, if_pos hfirst] at h
      omega
    · have hdown : k ≤ r := Nat.le_of_dvd (by omega) hkr
      refine ⟨r - k, by omega, Nat.dvd_sub hkr dvd_rfl, ?_⟩
      rw [if_pos rfl, if_neg hfirst] at h
      omega

theorem ModuloSpec.stays (h : ModuloSpec down k num d v) (hk : k ∣ num) (hd : k ∣ d.toNat) (hlt : k < num)
    (hnum : num ∣ 2 ^ 16) : v.toNat / num = d.toNat / num ∧ v.toNat % k = 0 := by
  obtain ⟨r, hr, hkr, hv⟩ := h.offset hk hd hlt hnum
  rw [hv]
  refine ⟨?_, Nat.mod_eq_zero_of_dvd ((Nat.dvd_add_right (Dvd.dvd.mul_right hk _)).mpr hkr)⟩
  rw [Nat.mul_add_div (by omega), Nat.div_eq_of_lt hr, Nat.add_zero]

end

theorem exec_formModulo (down : Bool) (k : Step) (i : BitVec 16) (r : RegOp) (s : State) :
    exec (formModulo down k i r) s
      = .next (s.moduloReg down (stepAmount k).toNat (lowestExponent k) i r) := by
  cases down <;> cases k <;> rfl

/-- MINC or MDEC is one write of its register, with the stepped value where the modulo is listed. -/
theorem formModulo_completes (s : State) (down : Bool) (k : Step) (i : BitVec 16) {r : RegOp}
    (h : r.alignedAt .word = true) :
    ∃ t, ∃ v : BitVec 16, exec (formModulo down k i r) s = .next t
      ∧ WroteReg s t .word (operandSel .word r) v s.flags
      ∧ (ModuloListed k (i.toNat + (stepAmount k).toNat) →
        v = moduloStep down (stepAmount k).toNat (i.toNat + (stepAmount k).toNat) (s.readReg .word r)) :=
  ⟨_, _, exec_formModulo down k i r s, wroteReg_writeSel s _ s.flags 1 (alignedAt_operandSel h),
    fun hlisted => if_pos (validModulo_iff.mpr hlisted)⟩

/-- Settles O48: a listed modulo is a power of two that the step divides, so the step ends inside its block. -/
theorem moduloStepsStayInBlock : Obligations.ModuloStepsStayInBlock := by
  intro s down k i r h d num
  obtain ⟨t, v, hx, hwrote, hv⟩ := formModulo_completes s down k i h
  have hspec (hlisted : ModuloListed k num) : ModuloSpec down (stepAmount k).toNat num d v :=
    hv hlisted ▸ moduloStep_spec d hlisted.divides.2.1
  refine ⟨by cases down <;> cases k <;> rfl, t, v, hx, hwrote, hspec, fun hlisted hd => ?_⟩
  obtain ⟨hk, hlt, hnum⟩ := hlisted.divides
  exact (hspec hlisted).stays hk (Nat.dvd_of_mod_eq_zero hd) hlt hnum

end Sys2Proof.Machine

/-! PROOF. Bits (43_logic_bit.md R295 to R312): the carry flag and one bit, a bit written and tested, the search
for a bit, and the instructions on the carry flag alone. -/

namespace Sys2Proof.Machine

/-! ### The operations as functions of their operation -/

section
variable (s : State) (z : Size) (r : RegOp) (m : MemOp)

theorem exec_formCarryNum (op : CarryOp) (n : BitVec 4) :
    exec (formCarryNum op z n r) s = .next (s.carryBit op (s.readReg z r) n.toNat) := by
  cases op <;> rfl

theorem exec_formCarryA (op : CarryOp) :
    exec (formCarryA op z r) s = .next (s.carryBit op (s.readReg z r) s.lowA.toNat) := by
  cases op <;> rfl

theorem exec_formCarryNumMem (op : CarryOp) (n : BitVec 3) :
    exec (formCarryNumMem op n m) s
      = .next ((s.afterRead .byte m).carryBit op (s.load .byte (s.ea m)) n.toNat) := by
  cases op <;> rfl

theorem exec_formCarryAMem (op : CarryOp) :
    exec (formCarryAMem op m) s
      = .next ((s.afterRead .byte m).carryBit op (s.load .byte (s.ea m)) (s.advance m).lowA.toNat) := by
  cases op <;> rfl

theorem exec_formBitNum (op : BitOp) (n : BitVec 4) :
    exec (formBitNum op z n r) s
      = .next (s.writeReg z r (modifyBit op (s.readReg z r) n.toNat)) := by
  cases op <;> rfl

theorem exec_formBitMem (op : BitOp) (n : BitVec 3) :
    exec (formBitMem op n m) s
      = .next ((s.afterRead .byte m).store .byte (s.ea m)
          (modifyBit op (s.load .byte (s.ea m)) n.toNat)) := by
  cases op <;> rfl

end

/-- The bit number in A is its lower four bits (43_logic_bit.md R295). -/
theorem State.lowA_toNat (s : State) : s.lowA.toNat = s.regA.toNat % 16 := by
  simp [State.lowA]

/-! ### The carry flag and a bit -/

/-- An instruction that combines the carry flag with a bit, in a state `u` with the flags of before. -/
theorem carryBit_completes {s u : State} {i : Instr} {op : CarryOp} {n k : Nat} {v : BitVec n}
    (hx : exec i s = .next (u.carryBit op v k)) (hu : u.flags = s.flags := by simp) :
    ∃ t f, exec i s = .next t ∧ WroteFlags u t f ∧ OnlyCarry s.flags f
      ∧ (k < n → f.c = CarrySpec op s.flags.c (v.getLsbD k)) := by
  obtain ⟨f, hwrote, honly, hc⟩ := carryBit_spec u op v k
  rw [hu] at honly hc
  exact ⟨_, f, hx, hwrote, honly, hc⟩

/-- Settles O49: every form is the one operation on the carry flag; a number of three bits is one that a byte
has. -/
theorem carryTakesBit : Obligations.CarryTakesBit := by
  intro s op
  refine ⟨fun z n r => carryBit_completes (exec_formCarryNum s z r op n), fun z r => ?_, fun n m => ?_,
    fun m => ?_⟩
  · rw [← State.lowA_toNat]
    exact carryBit_completes (exec_formCarryA s z r op)
  · obtain ⟨t, f, hx, hwrote, honly, hc⟩ := carryBit_completes (exec_formCarryNumMem s m op n)
    exact ⟨t, f, hx, hwrote, honly, hc n.isLt⟩
  · rw [← State.lowA_toNat]
    exact carryBit_completes (exec_formCarryAMem s m op)

/-! ### A bit written -/

/-- RES, SET, CHG put the bit that their rules give (43_logic_bit.md R306 to R308). -/
theorem bitPut_modifyBit (op : BitOp) {n : Nat} (v : BitVec n) (i : Nat) :
    BitPut v i (BitSpec op (v.getLsbD i)) (modifyBit op v i) := by
  rw [← bitOf_eq]
  exact bitPut_putBit v i _

/-- Settles O50: every form puts one bit, and then writes its register or stores its byte. -/
theorem bitIsWritten : Obligations.BitIsWritten := by
  intro s
  refine ⟨fun z n r h => ⟨_, _, rfl, bitPut_putBit _ _ _, wroteReg_writeReg _ h⟩, fun z r h => ?_,
    fun n m => ⟨_, _, rfl, bitPut_putBit _ _ _, wroteMem_of_store _ _⟩, fun m => ?_,
    fun op z n r h => ⟨_, _, exec_formBitNum s z r op n, bitPut_modifyBit op _ _, wroteReg_writeReg _ h⟩,
    fun op n m => ⟨_, _, exec_formBitMem s m op n, bitPut_modifyBit op _ _, wroteMem_of_store _ _⟩⟩
  · rw [← State.lowA_toNat]
    exact ⟨_, _, rfl, bitPut_putBit _ _ _, wroteReg_writeReg _ h⟩
  · rw [← State.lowA_toNat]
    exact ⟨_, _, rfl, bitPut_putBit _ _ _, wroteMem_of_store _ _⟩

/-! ### A bit tested -/

section
variable {s u t : State} {z : Size} {f : Flags}

/-- Flags changed, and then a register written. -/
theorem WroteFlags.wroteReg {c : RegSel} {v : BitVec z.bits} (h : WroteFlags s u f)
    (hw : WroteReg u t z c v f) : WroteReg s t z c v f := by
  obtain ⟨-, hpc, hframe⟩ := h
  obtain ⟨hv, hf, hpc', hframe'⟩ := hw
  exact ⟨hv, hf, hpc'.trans hpc, hframe.trans hframe'⟩

/-- Flags changed, and then a value stored: the store meets the address space as it was. -/
theorem WroteFlags.wroteMem {a : Addr} {v : BitVec z.bits} (h : WroteFlags s u f)
    (hw : WroteMem u t z a v f) : WroteMem s t z a v f := by
  obtain ⟨-, hpc, hframe⟩ := h
  obtain ⟨⟨hholds, hseen⟩, hnoted, hf, hpc', hframe'⟩ := hw
  have ⟨_, ⟨hmap, _, haccesses, _⟩, _, _⟩ := hframe
  rw [hmap, haccesses (fun _ ha => absurd ha List.not_mem_nil)] at hseen
  exact ⟨⟨hholds, hseen⟩, hnoted, hf, hpc'.trans hpc, hframe.trans hframe'⟩

end

/-- BIT and TSET of a byte of memory: the flags are those of the state after the read, whose carry flag is
that of before. -/
theorem bitFlags_afterRead (s : State) (m : MemOp) {n : Nat} (v : BitVec n) (i : Nat) :
    TestSpec v i s.flags ((s.afterRead .byte m).bitFlags v i).flags
      ∧ WroteFlags (s.afterRead .byte m) ((s.afterRead .byte m).bitFlags v i)
        ((s.afterRead .byte m).bitFlags v i).flags := by
  obtain ⟨htest, hwrote⟩ := bitFlags_spec (s.afterRead .byte m) v i
  rw [State.afterRead_flags] at htest
  exact ⟨htest, hwrote⟩

/-- Settles O51: TSET is the flags of BIT and then the write of the bit. -/
theorem bitIsTested : Obligations.BitIsTested := by
  intro s
  refine ⟨fun z n r => ⟨_, _, rfl, bitFlags_spec s _ _⟩, fun n m => ⟨_, _, rfl, bitFlags_afterRead s m _ _⟩,
    fun z n r h => ?tsetReg, fun n m => ?tsetMem⟩
  case tsetReg =>
    obtain ⟨htest, hwrote⟩ := bitFlags_spec s (s.readReg z r) n.toNat
    exact ⟨_, _, _, rfl, htest, bitPut_putBit _ _ _, hwrote.wroteReg (wroteReg_writeReg _ h rfl)⟩
  case tsetMem =>
    obtain ⟨htest, hwrote⟩ := bitFlags_afterRead s m (s.load .byte (s.ea m)) n.toNat
    exact ⟨_, _, _, rfl, htest, bitPut_putBit _ _ _, hwrote.wroteMem (wroteMem_of_store _ _ rfl)⟩

/-! ### The search for a bit -/

/-- A search along a list in an order finds what it holds of and none before it. -/
theorem find?_eq_some_of_first {α : Type} {R : α → α → Prop} {p : α → Bool} {l : List α} {a : α}
    (hl : l.Pairwise R) (ha : a ∈ l) (hp : p a = true) (hfirst : ∀ b, R b a → p b = false) :
    l.find? p = some a := by
  induction hl with
  | nil => exact absurd ha List.not_mem_nil
  | @cons b l hb _ ih =>
    rcases List.mem_cons.mp ha with rfl | hmem
    · exact List.find?_cons_of_pos hp
    · rw [List.find?_cons_of_neg (by simp [hfirst b (hb a hmem)])]
      exact ih hmem

/-- A search of all the bits of a value finds none exactly if it is 0. -/
theorem isNone_find?_bits {n : Nat} (w : BitVec n) {l : List Nat} (hl : ∀ i, i < n → i ∈ l) :
    (l.find? fun i => w.getLsbD i).isNone = (w == 0) := by
  rw [Bool.eq_iff_iff, Option.isNone_iff_eq_none, List.find?_eq_none, beq_iff_eq]
  constructor
  · intro hnone
    refine BitVec.eq_of_getLsbD_eq fun i hi => ?_
    simpa using hnone i (hl i hi)
  · rintro rfl i _
    simp

/-- An instruction that searches the bits of a word in an order gives A the first 1 bit in it (43_logic_bit.md
R310, R311). -/
theorem searched_completes {s : State} {i : Instr} {w : BitVec 16} {l : List Nat} {R : Nat → Nat → Prop}
    (hx : exec i s = .next (s.searched (l.find? fun k => w.getLsbD k))) (hall : ∀ k, k < 16 → k ∈ l)
    (horder : l.Pairwise R) :
    ∃ t a, exec i s = .next t ∧ WroteReg s t .byte selA a { s.flags with v := w == 0 }
      ∧ ∀ k, w.getLsbD k = true → (∀ j, R j k → w.getLsbD j = false) → BitVec.toNat a = k := by
  rw [← isNone_find?_bits w hall]
  refine ⟨_, _, hx, wroteReg_writeSel s _ _ 1 (alignedAt_selA .byte), fun k hk hfirst => ?_⟩
  have hlt : k < 16 := BitVec.lt_of_getLsbD hk
  rw [find?_eq_some_of_first horder (hall k hlt) hk hfirst]
  exact Nat.mod_eq_of_lt (by omega)

/-- Settles O54: BS1F searches the bit numbers upwards and BS1B downwards. -/
theorem bitSearchFindsBit : Obligations.BitSearchFindsBit := by
  intro s r w
  refine ⟨⟨rfl, rfl⟩, searched_completes rfl (fun k hk => List.mem_range.mpr hk) List.pairwise_lt_range,
    searched_completes rfl (fun k hk => List.mem_reverse.mpr (List.mem_range.mpr hk)) ?_⟩
  exact List.pairwise_reverse.mpr List.pairwise_lt_range

/-! ### The carry flag alone -/

/-- Settles O52: each is one change of the flags. -/
theorem carryIsResetAndSet : Obligations.CarryIsResetAndSet :=
  ⟨decode_of_encode rfl rfl rfl, decode_of_encode rfl rfl rfl,
    fun s => ⟨⟨_, rfl, wroteFlags_setFlags s _ 0⟩, ⟨_, rfl, wroteFlags_setFlags s _ 0⟩⟩⟩

/-- Settles O53: CCF and ZCF are one change of the flags, with H drawn, and NOP is none. -/
theorem carryIsComplemented : Obligations.CarryIsComplemented :=
  ⟨⟨decode_of_encode rfl rfl rfl, decode_of_encode rfl rfl rfl, decode_of_encode rfl rfl rfl⟩,
    fun s => ⟨⟨_, _, rfl, wroteFlags_setFlags s _ 1⟩, ⟨_, _, rfl, wroteFlags_setFlags s _ 1⟩, _, rfl, rfl⟩⟩

end Sys2Proof.Machine

/-! PROOF. CPU control (44_cpu_control.md): the frame of an exception and its vector, waiting after HALT, the
frames of procedures, and the register file pointer. -/

namespace Sys2Proof.Machine

/-! ### Two stores, one after the other -/

/-- An access of `j + k` bytes is one of `j` bytes and then one of `k`. -/
theorem spanOf_append (j k : Nat) (a : Addr) :
    spanOf (j + k) a = spanOf j a ++ spanOf k (a + BitVec.ofNat 32 j) := by
  induction j generalizing a with
  | zero => simp [spanOf]
  | succ j ih => rw [Nat.succ_add, spanOf, ih, addr_step, spanOf, List.cons_append]

/-- The 6-byte frame is the word at its bottom and the long word above it. -/
theorem spanOf_exceptionFrame (a : Addr) :
    spanOf 6 a = spanOf Size.word.bytes a ++ spanOf Size.long.bytes (a + 2#32) :=
  spanOf_append 2 4 a

/-- The word and the long word of the frame have no byte in common. -/
theorem exceptionFrame_disjoint (a : Addr) :
    (spanOf Size.word.bytes a).Disjoint (spanOf Size.long.bytes (a + 2#32)) := by
  intro x hw hl
  obtain ⟨i, hi, rfl⟩ := mem_spanOf.mp hw
  obtain ⟨j, hj, h⟩ := mem_spanOf.mp hl
  simp only [Size.bytes] at hi hj
  rw [BitVec.add_assoc, ← BitVec.ofNat_add, busAddr_add, busAddr_add] at h
  omega

/-- What RAM holds at a location it holds after a store that has no byte in common with it. -/
theorem Holds.store {t : State} {y z : Size} {a b : Addr} {v : BitVec z.bits} (h : Holds t z a v)
    (w : BitVec y.bits) (hd : (spanOf z.bytes a).Disjoint (spanOf y.bytes b)) :
    Holds (t.store y b w) z a v := by
  intro i hi hk
  rw [State.kindAt_store] at hk
  rw [← h i hi hk]
  exact Bus.mem_storeLE_kept _ _ _ _ fun hx => absurd hx (hd (mem_spanOf.mpr ⟨i, hi, rfl⟩))

/-- Two stores with no byte in common leave both values in RAM, and devices have seen one and then the
other. -/
theorem store_store_holds (s : State) {y z : Size} {a b : Addr} (v : BitVec y.bits) (w : BitVec z.bits)
    (hd : (spanOf y.bytes a).Disjoint (spanOf z.bytes b)) :
    let t := (s.store y a v).store z b w
    Holds t y a v ∧ Holds t z b w
      ∧ t.bus.accesses = writesSeen s.bus.map z b w ++ writesSeen s.bus.map y a v ++ s.bus.accesses := by
  obtain ⟨hv, hseen⟩ := stored_store s y a v
  obtain ⟨hw, hseen'⟩ := stored_store (s.store y a v) z b w
  refine ⟨hv.store w hd, hw, ?_⟩
  rw [hseen', hseen, State.store_bus, Bus.storeLE_map, List.append_assoc]

/-! ### The frame of an exception and its vector (60_exceptions.md R425, R426) -/

theorem State.xsp_pushFrame (s : State) (pcFirst : Bool) : (s.pushFrame pcFirst).xsp = s.xsp - 6#32 := by
  cases pcFirst with
  | false | true => exact s.xsp_setXsp _

/-- What a frame keeps, whichever half is stored first. -/
theorem frame_pushFrame (s : State) (pcFirst : Bool) :
    Frame s (s.pushFrame pcFirst) [wholeOf longXSP] (spanOf 6 (s.xsp - 6#32)) := by
  have hsp := frame_writeLong s longXSP (s.xsp - 6#32)
  rw [spanOf_exceptionFrame]
  cases pcFirst with
  | false => exact (hsp.trans (frame_store _ .word _ s.sr)).trans (frame_store _ .long _ s.pc)
  | true =>
    refine ((hsp.trans (frame_store _ .long _ s.pc)).trans (frame_store _ .word _ s.sr)).mono
      (List.Subset.refl _) ?_
    simp

/-- The frame is two stores below the old XSP. -/
theorem framePushed_pushFrame (s : State) (pcFirst : Bool) : FramePushed pcFirst s (s.pushFrame pcFirst) := by
  obtain ⟨hregs, hspace, -, -⟩ := frame_pushFrame s pcFirst
  have hd := exceptionFrame_disjoint (s.xsp - 6#32)
  unfold FramePushed
  rw [State.xsp_pushFrame]
  cases pcFirst with
  | false =>
    obtain ⟨hsr, hpc, hseen⟩ :=
      store_store_holds (s.setXsp (s.xsp - 6#32)) (y := .word) (z := .long) s.sr s.pc hd
    exact ⟨rfl, hsr, hpc, hregs, hspace, hseen⟩
  | true =>
    obtain ⟨hpc, hsr, hseen⟩ :=
      store_store_holds (s.setXsp (s.xsp - 6#32)) (y := .long) (z := .word) s.pc s.sr hd.symm
    exact ⟨rfl, hsr, hpc, hregs, hspace, hseen⟩

/-- A number shifted left by two bits is the offset of its entry in the vector table (60_exceptions.md
R422). -/
theorem setWidth_append_two {w : Nat} (n : BitVec w) :
    (n ++ 0#2).setWidth 32 = BitVec.ofNat 32 (4 * n.toNat) := by
  refine BitVec.eq_of_toNat_eq ?_
  simp [BitVec.toNat_append, Nat.shiftLeft_eq, Nat.mul_comm]

/-- An exception pushes its frame and takes its vector. -/
theorem vectorTaken_takeException (s : State) (pcFirst : Bool) (offset : Nat) :
    VectorTaken pcFirst s (s.takeException pcFirst (BitVec.ofNat 32 offset)) offset := by
  refine ⟨s.pushFrame pcFirst, framePushed_pushFrame s pcFirst, ?_, ?_, by simp [State.takeException]⟩
  all_goals
    rw [BitVec.ofNat_add]
    rfl

/-- An exception keeps the flags, the control registers and the mode. -/
theorem takeException_kept (s : State) (pcFirst : Bool) (v : BitVec 32) :
    (s.takeException pcFirst v).flags = s.flags ∧ ControlKept s (s.takeException pcFirst v)
      ∧ ModeKept s (s.takeException pcFirst v) := by
  obtain ⟨-, -, hcontrol, hmode⟩ := frame_pushFrame s pcFirst
  refine ⟨?_, by simpa [State.takeException, ControlKept] using hcontrol,
    by simpa [State.takeException, ModeKept] using hmode⟩
  cases pcFirst with
  | false | true => rfl

theorem exec_swi (s : State) (n : BitVec 3) :
    exec (.swi n) s = .next (s.takeException false (BitVec.ofNat 32 (4 * n.toNat))) := by
  rw [← setWidth_append_two]
  rfl

/-- Settles O14: SWI is an exception whose frame is stored SR first. -/
theorem softwareInterruptTakesVector : Obligations.SoftwareInterruptTakesVector := by
  intro s n
  exact ⟨_, exec_swi s n, vectorTaken_takeException s false _, takeException_kept s false _⟩

/-! ### Waiting after HALT (60_exceptions.md R437) -/

/-- An event taken at the sampling point is the whole step. -/
theorem step_of_event {s t : State} (hu : s.unsampled = false) (he : s.sample = .event t) :
    step s = .next t.settled := by
  simp [step, State.stepOnce, hu, he]

/-- Where nothing is taken at the sampling point, a halted core does nothing. -/
theorem step_of_halted {s s' : State} (hu : s.unsampled = false) (hg : s.sample = .goOn s')
    (hh : s'.halted = true) : step s = .next s' := by
  simp [step, State.stepOnce, hu, hg, hh]

section
variable {s : State} {level : BitVec 3} {vector : BitVec 6} {rest : List Input}

/-- A request of a level that is accepted is entered (60_exceptions.md R423, R425). -/
theorem State.sample_accepted (hi : s.inputs = .request level vector :: rest) (ha : s.accepts level = true) :
    s.sample = .event (State.interruptEntry { s with inputs := rest } level vector) := by
  simp [State.sample, hi, ha]

/-- A request of a level that is not accepted is gone (60_exceptions.md R423). -/
theorem State.sample_masked (hi : s.inputs = .request level vector :: rest) (ha : s.accepts level = false) :
    s.sample = .goOn { s with inputs := rest } := by
  simp [State.sample, hi, ha]

end

/-- Interrupt entry takes its vector. -/
theorem vectorTaken_interruptEntry (s : State) (level : BitVec 3) (vector : BitVec 6) :
    VectorTaken true s (s.interruptEntry level vector) (4 * vector.toNat) := by
  obtain ⟨u, hframe, hpc, hbus, hgpr⟩ := vectorTaken_takeException s true (4 * vector.toNat)
  simp only [State.interruptEntry, vectorOffset, setWidth_append_two, VectorTaken]
  exact ⟨u, hframe, hpc, hbus, hgpr⟩

/-- Taking a vector has nothing to do with what is presented. -/
theorem VectorTaken.of_inputs {pcFirst : Bool} {s t : State} {l : List Input} {offset : Nat}
    (h : VectorTaken pcFirst { s with inputs := l } t offset) : VectorTaken pcFirst s t offset := by
  obtain ⟨u, ⟨hxsp, hsr, hret, hregs, hspace, hseen⟩, hpc, hbus, hgpr⟩ := h
  exact ⟨u, ⟨hxsp, hsr, hret, hregs, hspace, hseen⟩, hpc, hbus, hgpr⟩

/-- The noted stores are no part of taking a vector. -/
theorem VectorTaken.settled {pcFirst : Bool} {s t : State} {offset : Nat}
    (h : VectorTaken pcFirst s t offset) : VectorTaken pcFirst s t.settled offset := by
  simpa only [VectorTaken, State.settled_pc, State.settled_bus, State.settled_gpr] using h

/-- The step in which a request is entered. -/
theorem step_of_accepted {s : State} {level : BitVec 3} {vector : BitVec 6} {rest : List Input}
    (hu : s.unsampled = false) (hi : s.inputs = .request level vector :: rest)
    (ha : s.accepts level = true) :
    ∃ t, step s = .next t ∧ VectorTaken true s t (4 * vector.toNat) ∧ t.halted = false := by
  have htaken := (vectorTaken_interruptEntry { s with inputs := rest } level vector).of_inputs
  exact ⟨_, step_of_event hu (State.sample_accepted hi ha), htaken.settled, by simp [State.interruptEntry]⟩

/-- What RAM holds depends on the address space only. -/
theorem Holds.of_bus {t u : State} {z : Size} {a : Addr} {v : BitVec z.bits} (h : Holds t z a v)
    (hmap : u.bus.map = t.bus.map) (hmem : u.bus.mem = t.bus.mem) : Holds u z a v := by
  simpa only [Holds, State.kindAt, State.byteAt, hmap, hmem] using h

/-- Where an exception's vector is taken, XSP is below the frame, and the frame holds the address to come
back to. -/
theorem VectorTaken.frame {pcFirst : Bool} {s t : State} {offset : Nat} (h : VectorTaken pcFirst s t offset) :
    t.xsp = s.xsp - 6#32 ∧ Holds t .long (t.xsp + 2#32) s.pc := by
  obtain ⟨u, ⟨hxsp, -, hpc, -⟩, -, hbus, hgpr⟩ := h
  have ht : t.xsp = u.xsp := State.readLong_of_gpr hgpr rfl
  rw [ht]
  exact ⟨hxsp, hpc.of_bus (by simp [hbus]) (by simp [hbus])⟩

/-- HALT changes nothing but `halted`. -/
theorem frame_halt (s : State) : RegsKept s { s with halted := true } []
    ∧ SpaceKept s { s with halted := true } [] ∧ ControlKept s { s with halted := true } :=
  ⟨fun _ _ _ _ => rfl, .of_eq rfl (List.Subset.refl _) _, rfl, rfl, rfl, rfl, rfl⟩

/-- Settles O16: a halted core is at a sampling point in every step, where a request is entered or gone. -/
theorem haltWaits : Obligations.HaltWaits := by
  refine ⟨fun s => ⟨_, rfl, ?halts⟩, fun s s' hh hr hg => ?waits,
    fun s level vector rest hh hr hi => ⟨fun ha => ?entered, fun ha => ?masked⟩⟩
  case halts =>
    obtain ⟨hregs, hspace, hcontrol⟩ := frame_halt s
    exact ⟨rfl, rfl, rfl, hregs, hspace, hcontrol, rfl, rfl, rfl, rfl⟩
  case waits =>
    have hs' := State.sample_goOn hg
    exact ⟨step_of_halted (State.unsampled_of_not_repeating hr) hg (hs' ▸ hh), hs'⟩
  case entered =>
    obtain ⟨t, hstep, htaken, hgoes⟩ := step_of_accepted (State.unsampled_of_not_repeating hr) hi ha
    exact ⟨t, hstep, hgoes, htaken.frame⟩
  case masked =>
    exact step_of_halted (State.unsampled_of_not_repeating hr) (State.sample_masked hi ha) hh

/-! ### LINK and UNLK -/

/-- An operand of the long size is a whole register (10_state.md R23). -/
theorem operandSel_long {r : RegOp} (h : r.alignedAt .long = true) :
    ∃ c, operandSel .long r = ⟨c, 0#2⟩ := by
  have ha := alignedAt_operandSel h
  simp only [RegSel.alignedAt, beq_iff_eq] at ha
  exact ⟨_, congrArg (RegSel.mk _) ha⟩

section
variable (s : State) {c : LongReg} (v : BitVec 32)

/-- XSP after a register takes its value, be that XSP itself or another. -/
theorem State.xsp_writeLong_xsp (h : s.xsp = v) : (s.writeLong c v).xsp = v := by
  rw [State.xsp, State.readLong_writeLong]
  split
  · rfl
  · exact h

/-- A write of a register stored elsewhere leaves XSP as it is. -/
theorem State.xsp_writeLong (h : gprIndex s.rfp c ≠ gprIndex s.rfp longXSP) :
    (s.writeLong c v).xsp = s.xsp := by
  rw [State.xsp, State.readLong_writeLong, if_neg h.symm]
  rfl

/-- A write of XSP leaves a register stored elsewhere as it is. -/
theorem State.readLong_setXsp (h : gprIndex s.rfp c ≠ gprIndex s.rfp longXSP) :
    (s.setXsp v).readLong c = s.readLong c := by
  rw [State.setXsp, State.readLong_writeLong, if_neg h]

/-- Writes of two registers stored apart may be exchanged. -/
theorem State.writeLong_comm {d : LongReg} (w : BitVec 32) (h : gprIndex s.rfp c ≠ gprIndex s.rfp d) :
    (s.writeLong c v).writeLong d w = (s.writeLong d w).writeLong c v := by
  simp only [State.writeLong]
  rw [Vector.set_comm _ _ fun e => h (Fin.ext e)]

/-- A whole register written twice holds what is written last. -/
theorem State.writeSel_writeLong (s : State) (c : LongReg) (v w : BitVec 32) :
    (s.writeLong c v).writeSel .long ⟨c, 0#2⟩ w = s.writeSel .long ⟨c, 0#2⟩ w := by
  rw [State.writeSel_long, State.writeSel_long, State.writeLong_writeLong]

/-- XSP written with what it holds leaves the state as it is. -/
theorem State.setXsp_of_xsp {s : State} {v : BitVec 32} (h : s.xsp = v) : s.setXsp v = s := by
  subst h
  exact s.writeLong_readLong longXSP

/-- A register stored elsewhere may be written before or after the stack drops. -/
theorem State.dropTop_writeLong (z : Size) (h : gprIndex s.rfp c ≠ gprIndex s.rfp longXSP) :
    (s.writeLong c v).dropTop z = (s.dropTop z).writeLong c v := by
  rw [State.dropTop, State.xsp_writeLong s v h]
  exact (s.loaded z s.xsp).writeLong_comm v _ h

end

/-- The state after LINK of a whole register (44_cpu_control.md R349). -/
def State.linked (s : State) (c : LongReg) (d : BitVec 16) : State :=
  ((s.push .long (s.readSel .long ⟨c, 0#2⟩)).writeLong c (s.xsp - 4#32)).setXsp
    (s.xsp - 4#32 + d.signExtend 32)

/-- The state after UNLK of a whole register (44_cpu_control.md R350). -/
def State.unlinked (s : State) (c : LongReg) : State :=
  ((s.setXsp (s.readLong c)).dropTop .long).writeSel .long ⟨c, 0#2⟩ (s.load .long (s.readLong c))

section
variable (s : State) {r : RegOp} {c : LongReg} (d : BitVec 16)

/-- LINK in terms of whole registers; XSP is the value written also where the register is XSP. -/
theorem exec_link (hr : operandSel .long r = ⟨c, 0#2⟩) : exec (.link r d) s = .next (s.linked c d) := by
  let p := s.push .long (s.readSel .long ⟨c, 0#2⟩)
  have hp : p.xsp = s.xsp - 4#32 := s.xsp_push .long _
  have hw : p.writeSel .long ⟨c, 0#2⟩ p.xsp = p.writeLong c (s.xsp - 4#32) :=
    (p.writeSel_long c p.xsp).trans (congrArg (p.writeLong c) hp)
  have hx : (p.writeLong c (s.xsp - 4#32)).xsp = s.xsp - 4#32 := p.xsp_writeLong_xsp _ hp
  simp only [exec, execLink, State.readReg, State.writeReg, hr]
  change Host.Outcome.next ((p.writeSel .long ⟨c, 0#2⟩ p.xsp).setXsp
    ((p.writeSel .long ⟨c, 0#2⟩ p.xsp).xsp + d.signExtend 32)) = _
  rw [hw, hx]
  rfl

/-- UNLK in terms of whole registers: the value popped is loaded from where the register points. -/
theorem exec_unlk (hr : operandSel .long r = ⟨c, 0#2⟩) : exec (.unlk r) s = .next (s.unlinked c) := by
  simp only [exec, execUnlk, State.readReg, State.writeReg, hr, State.readSel_long, State.top,
    State.xsp_setXsp, State.load_setXsp]
  rfl

variable (c)

theorem stored_linked : Stored s (s.linked c d) .long (s.xsp - 4#32) (s.readLong c) := by
  rw [← State.readSel_long]
  exact stored_store (s.setXsp (s.xsp - 4#32)) .long _ _

theorem State.xsp_linked : (s.linked c d).xsp = s.xsp - 4#32 + d.signExtend 32 := State.xsp_setXsp _ _

@[simp] theorem State.linked_flags : (s.linked c d).flags = s.flags := by simp [State.linked]

@[simp] theorem State.linked_pc : (s.linked c d).pc = s.pc := by simp [State.linked]

theorem frame_linked :
    Frame s (s.linked c d) [wholeOf c, wholeOf longXSP] (spanOf 4 (s.xsp - 4#32)) := by
  have h := ((frame_push s .long (s.readSel .long ⟨c, 0#2⟩)).trans
    (frame_writeLong _ c (s.xsp - 4#32))).trans (frame_writeLong _ longXSP (s.xsp - 4#32 + d.signExtend 32))
  exact h.mono (by simp) (by simp [sizeWord, Size.bytes])

theorem State.readLong_unlinked : (s.unlinked c).readLong c = s.load .long (s.readLong c) := by
  rw [← State.readSel_long]
  exact State.readSel_writeSel_same _ _ rfl

@[simp] theorem State.unlinked_flags : (s.unlinked c).flags = s.flags := by simp [State.unlinked]

@[simp] theorem State.unlinked_pc : (s.unlinked c).pc = s.pc := by simp [State.unlinked]

theorem frame_unlinked :
    Frame (s.loaded .long (s.readLong c)) (s.unlinked c) [wholeOf c, wholeOf longXSP] [] := by
  have hdrop := frame_dropTop (s.setXsp (s.readLong c)) .long
  rw [State.xsp_setXsp] at hdrop
  have hset := frame_writeLong (s.loaded .long (s.readLong c)) longXSP (s.readLong c)
  exact ((hset.trans hdrop).trans (frame_writeSel _ .long ⟨c, 0#2⟩ _)).mono (by simp [wholeOf]) (by simp)

variable {c}

/-- A frame pointer that is not XSP points to the value pushed. -/
theorem State.readLong_linked (h : gprIndex s.rfp c ≠ gprIndex s.rfp longXSP) :
    (s.linked c d).readLong c = s.xsp - 4#32 :=
  let p := s.push .long (s.readSel .long ⟨c, 0#2⟩)
  ((p.writeLong c (s.xsp - 4#32)).readLong_setXsp _ h).trans (p.readLong_writeLong_same c _)

theorem State.xsp_unlinked (h : gprIndex s.rfp c ≠ gprIndex s.rfp longXSP) :
    (s.unlinked c).xsp = s.readLong c + 4#32 := by
  let t := s.setXsp (s.readLong c)
  have hdrop : (t.dropTop .long).xsp = s.readLong c + 4#32 := by
    rw [State.xsp_dropTop, State.xsp_setXsp]
    rfl
  exact ((t.dropTop .long).xsp_writeLong _ h).trans hdrop

/-- UNLK right after LINK leaves the value pushed below XSP, and nothing else: XSP moved by the displacement
is set back from the frame pointer, and the frame pointer is what is popped. -/
theorem State.unlinked_linked (h : gprIndex s.rfp c ≠ gprIndex s.rfp longXSP)
    (hram : RamAt s (spanOf 4 (s.xsp - 4#32))) :
    (s.linked c d).unlinked c = s.store .long (s.xsp - 4#32) (s.readSel .long ⟨c, 0#2⟩) := by
  let p := s.push .long (s.readSel .long ⟨c, 0#2⟩)
  have hxsp : (p.writeLong c (s.xsp - 4#32)).xsp = s.xsp - 4#32 := p.xsp_writeLong_xsp _ (s.xsp_push .long _)
  have hback : (s.linked c d).setXsp (s.xsp - 4#32) = p.writeLong c (s.xsp - 4#32) :=
    calc (s.linked c d).setXsp (s.xsp - 4#32)
      _ = (p.writeLong c (s.xsp - 4#32)).setXsp (s.xsp - 4#32) := State.writeLong_writeLong _ longXSP _ _
      _ = p.writeLong c (s.xsp - 4#32) := State.setXsp_of_xsp hxsp
  have hload : (s.linked c d).load .long (s.xsp - 4#32) = s.readSel .long ⟨c, 0#2⟩ :=
    State.load_store_same _ .long _ _ hram
  have hdrop : p.dropTop .long = s.store .long (s.xsp - 4#32) (s.readSel .long ⟨c, 0#2⟩) :=
    s.dropTop_push _ hram
  calc (s.linked c d).unlinked c
    _ = ((p.writeLong c (s.xsp - 4#32)).dropTop .long).writeSel .long ⟨c, 0#2⟩
          (s.readSel .long ⟨c, 0#2⟩) := by
      rw [State.unlinked, State.readLong_linked s d h, hback, hload]
    _ = (p.dropTop .long).writeSel .long ⟨c, 0#2⟩ (s.readSel .long ⟨c, 0#2⟩) := by
      rw [State.dropTop_writeLong p _ _ h]
      exact State.writeSel_writeLong _ _ _ _
    _ = s.store .long (s.xsp - 4#32) (s.readSel .long ⟨c, 0#2⟩) := by
      rw [hdrop]
      exact (s.store .long _ _).writeSel_readSel .long ⟨c, 0#2⟩

end

/-- Settles O58: UNLK right after LINK comes to the store that LINK makes. -/
theorem linkAndUnlink : Obligations.LinkAndUnlink := by
  intro s r d hr
  obtain ⟨c, hc⟩ := operandSel_long hr
  simp only [State.readReg, hc, State.readSel_long]
  refine ⟨⟨_, exec_link s d hc, stored_linked s c d, s.xsp_linked c d, s.readLong_linked d,
      s.linked_flags c d, s.linked_pc c d, frame_linked s c d⟩,
    ⟨_, exec_unlk s hc, s.readLong_unlinked c, s.xsp_unlinked, s.unlinked_flags c, s.unlinked_pc c,
      frame_unlinked s c⟩,
    fun hne hram => ⟨_, _, exec_link s d hc, exec_unlk _ hc, ?undone⟩⟩
  case undone =>
    obtain ⟨hregs, ⟨-, hmem, -⟩, -⟩ := frame_store s .long (s.xsp - 4#32) (s.readSel .long ⟨c, 0#2⟩)
    rw [s.unlinked_linked d hne hram]
    exact ⟨hregs, rfl, hmem⟩

/-! ### INCF and DECF -/

/-- Settles O21: RFP is a two-bit number, so it steps modulo 4. -/
theorem bankPointerStepsModuloFour : Obligations.BankPointerStepsModuloFour := by
  refine ⟨decode_of_encode rfl rfl rfl, decode_of_encode rfl rfl rfl,
    fun s => ⟨⟨_, rfl, BitVec.toNat_add s.rfp 1#2, rfl⟩, _, rfl, ?_, rfl⟩⟩
  have hlt := s.rfp.isLt
  rw [BitVec.toNat_sub]
  simp only [BitVec.toNat_ofNat]
  omega

end Sys2Proof.Machine

/-! PROOF. Rotates and shifts (45_rotate_shift.md R370 to R381): one step moves every bit by one place,
the closed forms follow by induction on the count, and RLD and RRD join two digits of four bits. -/

namespace Sys2Proof.Machine

/-! ### A bit moved in at either end -/

/-- One place to the left, with `b` moved in at bit 0 (45_rotate_shift.md R372, R374). -/
def moveInLow {n : Nat} (x : BitVec n) (b : Bool) : BitVec n := (x <<< 1) ||| (if b then 1#n else 0#n)

/-- One place to the right, with `b` moved in at the highest bit (45_rotate_shift.md R373, R375). -/
def moveInHigh {n : Nat} (x : BitVec n) (b : Bool) : BitVec n :=
  (x >>> 1) ||| (if b then 1#n <<< (n - 1) else 0#n)

section
variable {n : Nat} (x : BitVec n) (b : Bool) (k : Nat) {i : Nat}

theorem getLsbD_moveInLow (hi : i < n) :
    (moveInLow x b).getLsbD i = if i = 0 then b else x.getLsbD (i - 1) := by
  have hin : (if b then 1#n else 0#n).getLsbD i = (b && decide (i = 0)) := by
    cases b <;> simp [BitVec.getLsbD_one, show 0 < n by omega]
  rw [moveInLow, BitVec.getLsbD_or, BitVec.getLsbD_shiftLeft, hin]
  rcases Nat.eq_zero_or_pos i with rfl | hpos
  · simp
  · simp [hi, Nat.ne_of_gt hpos, Nat.not_lt.mpr hpos]

theorem getLsbD_topBit (hi : i < n) : (1#n <<< (n - 1)).getLsbD i = decide (i = n - 1) := by
  rw [BitVec.getLsbD_shiftLeft, BitVec.getLsbD_one]
  grind

theorem getLsbD_topBit_if (hi : i < n) :
    (if b then 1#n <<< (n - 1) else 0#n).getLsbD i = (b && decide (i = n - 1)) := by
  cases b
  · simp
  · exact getLsbD_topBit hi

theorem getLsbD_moveInHigh (hi : i < n) :
    (moveInHigh x b).getLsbD i = if i = n - 1 then b else x.getLsbD (i + 1) := by
  rw [moveInHigh, BitVec.getLsbD_or, BitVec.getLsbD_ushiftRight, getLsbD_topBit_if _ hi, Nat.add_comm 1 i]
  by_cases h : i = n - 1
  · rw [BitVec.getLsbD_of_ge x (i + 1) (by omega)]
    simp [h]
  · simp [h]

/-! ### Rotations and the arithmetic shift, one place at a time -/

/-- The bit that a rotation to the right brings to place `i`. -/
theorem getLsbD_rotateRight_mod (hi : i < n) : (x.rotateRight k).getLsbD i = x.getLsbD ((k + i) % n) := by
  have hk : k % n < n := Nat.mod_lt k (by omega)
  rw [BitVec.getLsbD_rotateRight, Nat.add_mod, Nat.mod_eq_of_lt hi]
  by_cases h : i < n - k % n
  · rw [Nat.mod_eq_of_lt (show k % n + i < n by omega)]
    simp [h]
  · rw [Nat.mod_eq_sub_mod (show n ≤ k % n + i by omega),
      Nat.mod_eq_of_lt (show k % n + i - n < n by omega), show k % n + i - n = i - (n - k % n) by omega]
    simp [h, hi]

theorem rotateLeft_zero : x.rotateLeft 0 = x := by
  rw [BitVec.rotateLeft_def]
  simp [BitVec.ushiftRight_eq_zero]

theorem rotateRight_zero : x.rotateRight 0 = x := by
  rw [BitVec.rotateRight_def]
  simp

theorem rotateLeft_succ : x.rotateLeft (k + 1) = (x.rotateLeft k).rotateLeft 1 := by
  refine BitVec.eq_of_getMsbD_eq fun i hi => ?_
  have hlt : (1 + i) % n < n := Nat.mod_lt _ (by omega)
  simp only [BitVec.getMsbD_rotateLeft, hi, hlt, decide_true, Bool.true_and, Nat.add_mod_mod, Nat.add_assoc]

theorem rotateRight_succ : x.rotateRight (k + 1) = (x.rotateRight k).rotateRight 1 := by
  refine BitVec.eq_of_getLsbD_eq fun i hi => ?_
  rw [getLsbD_rotateRight_mod _ _ hi, getLsbD_rotateRight_mod _ _ hi,
    getLsbD_rotateRight_mod _ _ (Nat.mod_lt (1 + i) (by omega)), Nat.add_mod_mod, Nat.add_assoc]

theorem rotateLeft_one : x.rotateLeft 1 = moveInLow x x.msb := by
  refine BitVec.eq_of_getLsbD_eq fun i hi => ?_
  rw [getLsbD_moveInLow _ _ hi, BitVec.getLsbD_eq_getMsbD, BitVec.getMsbD_rotateLeft]
  split
  · next h => simp [h, show 1 + (n - 1) = n by omega, show 0 < n by omega, BitVec.msb]
  · next h =>
    rw [Nat.mod_eq_of_lt (show 1 + (n - 1 - i) < n by omega), BitVec.getMsbD_eq_getLsbD,
      show n - 1 - (1 + (n - 1 - i)) = i - 1 by omega]
    rw [decide_eq_true hi, decide_eq_true (show n - 1 - i < n by omega),
      decide_eq_true (show 1 + (n - 1 - i) < n by omega), Bool.true_and, Bool.true_and, Bool.true_and]

theorem rotateRight_one : x.rotateRight 1 = moveInHigh x (x.getLsbD 0) := by
  refine BitVec.eq_of_getLsbD_eq fun i hi => ?_
  rw [getLsbD_rotateRight_mod _ _ hi, getLsbD_moveInHigh _ _ hi]
  split
  · next h => rw [show 1 + i = n by omega, Nat.mod_self]
  · next h => rw [Nat.mod_eq_of_lt (show 1 + i < n by omega), Nat.add_comm]

theorem sshiftRight_one : x.sshiftRight 1 = moveInHigh x x.msb := by
  refine BitVec.eq_of_getLsbD_eq fun i hi => ?_
  rw [getLsbD_moveInHigh _ _ hi, BitVec.getLsbD_sshiftRight]
  grind

/-- The bit that one place to the left takes out at the top comes in at the bottom. -/
theorem getLsbD_zero_rotateLeft_succ (hn : 0 < n) :
    (x.rotateLeft (k + 1)).getLsbD 0 = (x.rotateLeft k).msb := by
  rw [rotateLeft_succ, rotateLeft_one, getLsbD_moveInLow _ _ hn, if_pos rfl]

/-- The bit that one place to the right takes out at the bottom comes in at the top. -/
theorem msb_rotateRight_succ (hn : 0 < n) : (x.rotateRight (k + 1)).msb = (x.rotateRight k).getLsbD 0 := by
  rw [rotateRight_succ, rotateRight_one, BitVec.msb_eq_getLsbD_last,
    getLsbD_moveInHigh _ _ (Nat.sub_one_lt_of_lt hn), if_pos rfl]

end

/-! ### The carry flag and the operand as one value -/

/-- The carry flag above the operand, as RL and RR rotate them (45_rotate_shift.md R374, R375). -/
def withCarry {n : Nat} (p : BitVec n × Bool) : BitVec (1 + n) := BitVec.ofBool p.2 ++ p.1

section
variable {n : Nat} (d : BitVec n) (c : Bool)

theorem getLsbD_withCarry {i : Nat} (hi : i < 1 + n) :
    (withCarry (d, c)).getLsbD i = if i < n then d.getLsbD i else c := by
  rw [withCarry, BitVec.getLsbD_append, BitVec.getLsbD_ofBool]
  split
  · rfl
  · simp [show i - n = 0 by omega]

theorem rotateLeft_one_withCarry (hn : 0 < n) :
    (withCarry (d, c)).rotateLeft 1 = withCarry (moveInLow d c, d.msb) := by
  have hmsb : (withCarry (d, c)).msb = c := by
    rw [BitVec.msb_eq_getLsbD_last, getLsbD_withCarry _ _ (by omega), if_neg (by omega)]
  refine BitVec.eq_of_getLsbD_eq fun i hi => ?_
  rw [rotateLeft_one, hmsb, getLsbD_moveInLow _ _ hi, getLsbD_withCarry _ _ hi,
    getLsbD_withCarry _ _ (show i - 1 < 1 + n by omega)]
  by_cases h : i < n
  · rw [if_pos h, getLsbD_moveInLow _ _ h, if_pos (show i - 1 < n by omega)]
  · rw [if_neg h, if_neg (show i ≠ 0 by omega), if_pos (show i - 1 < n by omega),
      BitVec.msb_eq_getLsbD_last, show i = n by omega]

theorem rotateRight_one_withCarry (hn : 0 < n) :
    (withCarry (d, c)).rotateRight 1 = withCarry (moveInHigh d c, d.getLsbD 0) := by
  have hlow : (withCarry (d, c)).getLsbD 0 = d.getLsbD 0 := by
    rw [getLsbD_withCarry _ _ (by omega), if_pos hn]
  refine BitVec.eq_of_getLsbD_eq fun i hi => ?_
  rw [rotateRight_one, hlow, getLsbD_moveInHigh _ _ hi, getLsbD_withCarry _ _ hi]
  by_cases h : i < n
  · rw [if_pos h, if_neg (show i ≠ 1 + n - 1 by omega), getLsbD_moveInHigh _ _ h,
      getLsbD_withCarry _ _ (show i + 1 < 1 + n by omega)]
    grind
  · rw [if_neg h, if_pos (show i = 1 + n - 1 by omega)]

end

/-! ### The closed forms, by induction on the count -/

section
variable (op : ShiftOp) {n : Nat} (k : Nat) (d : BitVec n) (c : Bool)

/-- The last step may be taken off as the first may. -/
theorem shiftTimes_succ :
    shiftTimes op (k + 1) d c = shiftStep op (shiftTimes op k d c).1 (shiftTimes op k d c).2 := by
  induction k generalizing d c with
  | zero => rfl
  | succ k ih => exact ih _ _

/-- The bit that a step takes out of the operand: the highest of a step to the left, the lowest of one to the
right (45_rotate_shift.md R372 to R379). -/
def takenOut (op : ShiftOp) {n : Nat} (x : BitVec n) : Bool :=
  match op with
  | .rlc | .rl | .sla | .sll => x.msb
  | .rrc | .rr | .sra | .srl => x.getLsbD 0

theorem shiftTimes_succ_carry : (shiftTimes op (k + 1) d c).2 = takenOut op (shiftTimes op k d c).1 := by
  rw [shiftTimes_succ]
  cases op <;> rfl

/-- What is read of operand and carry by `J` is `F` of the number of steps, if each step keeps it so. -/
theorem shiftTimes_closed {α : Type} (J : BitVec n × Bool → α) (F : Nat → α) (hzero : F 0 = J (d, c))
    (hstep : ∀ k p, J p = F k → F (k + 1) = J (shiftStep op p.1 p.2)) :
    J (shiftTimes op k d c) = F k := by
  induction k with
  | zero => exact hzero.symm
  | succ k ih => rw [shiftTimes_succ, hstep k _ ih]

theorem shiftTimes_rlc : (shiftTimes .rlc k d c).1 = d.rotateLeft k :=
  shiftTimes_closed .rlc k d c Prod.fst d.rotateLeft (rotateLeft_zero d) fun k p hp => by
    rw [rotateLeft_succ, ← hp, rotateLeft_one]
    rfl

theorem shiftTimes_rrc : (shiftTimes .rrc k d c).1 = d.rotateRight k :=
  shiftTimes_closed .rrc k d c Prod.fst d.rotateRight (rotateRight_zero d) fun k p hp => by
    rw [rotateRight_succ, ← hp, rotateRight_one]
    rfl

theorem shiftTimes_rl (hn : 0 < n) :
    withCarry (shiftTimes .rl k d c) = (withCarry (d, c)).rotateLeft k :=
  shiftTimes_closed .rl k d c withCarry (withCarry (d, c)).rotateLeft (rotateLeft_zero _) fun k p hp => by
    rw [rotateLeft_succ, ← hp, rotateLeft_one_withCarry _ _ hn]
    rfl

theorem shiftTimes_rr (hn : 0 < n) :
    withCarry (shiftTimes .rr k d c) = (withCarry (d, c)).rotateRight k :=
  shiftTimes_closed .rr k d c withCarry (withCarry (d, c)).rotateRight (rotateRight_zero _) fun k p hp => by
    rw [rotateRight_succ, ← hp, rotateRight_one_withCarry _ _ hn]
    rfl

/-- The last bit that `k + 1` places to the left take out. -/
theorem msb_shiftLeft_eq : (d <<< k).msb = (decide (k + 1 ≤ n) && d.getLsbD (n - (k + 1))) := by
  rw [BitVec.msb_shiftLeft, BitVec.getMsbD_eq_getLsbD, Nat.sub_sub, Nat.add_comm 1 k]
  rfl

theorem shiftTimes_sla : (shiftTimes .sla k d c).1 = d <<< k :=
  shiftTimes_closed .sla k d c Prod.fst (d <<< ·) (BitVec.shiftLeft_zero d) fun k p hp => by
    rw [BitVec.shiftLeft_add, ← hp]
    rfl

/-- SLL and SLA are the same operation (45_rotate_shift.md R376, R378). -/
theorem shiftTimes_sll : shiftTimes .sll k d c = shiftTimes .sla k d c := by
  induction k generalizing d c with
  | zero => rfl
  | succ k ih => exact ih _ _

theorem shiftStep_sra : (shiftStep .sra d c).1 = moveInHigh d d.msb := by
  have htop : d &&& 1#n <<< (n - 1) = if d.msb then 1#n <<< (n - 1) else 0#n := by
    refine BitVec.eq_of_getLsbD_eq fun i hi => ?_
    rw [BitVec.getLsbD_and, getLsbD_topBit hi, getLsbD_topBit_if _ hi, BitVec.msb_eq_getLsbD_last]
    by_cases h : i = n - 1
    · rw [h]
    · simp [h]
  rw [moveInHigh, ← htop]
  rfl

theorem shiftTimes_sra : (shiftTimes .sra k d c).1 = d.sshiftRight k :=
  shiftTimes_closed .sra k d c Prod.fst d.sshiftRight BitVec.sshiftRight_zero fun k p hp => by
    rw [BitVec.sshiftRight_add, ← hp, sshiftRight_one, ← shiftStep_sra]

theorem shiftTimes_srl : (shiftTimes .srl k d c).1 = d >>> k :=
  shiftTimes_closed .srl k d c Prod.fst (d >>> ·) (BitVec.ushiftRight_zero d) fun k p hp => by
    rw [BitVec.shiftRight_add, ← hp]
    rfl

end

/-- One step or more: the operand is the closed form after all of them, and the carry flag is what the last of
them takes out of the closed form before it (45_rotate_shift.md R372 to R379). -/
theorem shiftTimes_spec (op : ShiftOp) (z : Size) (k : Nat) (d : BitVec z.bits) (c : Bool) :
    ShiftSpec op z (k + 1) d c (shiftTimes op (k + 1) d c).1 (shiftTimes op (k + 1) d c).2 := by
  have hz : 0 < z.bits := by cases z <;> decide
  have hsla : ShiftSpec .sla z (k + 1) d c (shiftTimes .sla (k + 1) d c).1
      (shiftTimes .sla (k + 1) d c).2 := by
    refine ⟨shiftTimes_sla _ d c, ?_⟩
    rw [shiftTimes_succ_carry, takenOut, shiftTimes_sla, msb_shiftLeft_eq]
  cases op with
  | rlc =>
    refine ⟨shiftTimes_rlc _ d c, ?_⟩
    rw [shiftTimes_succ_carry, takenOut, shiftTimes_rlc, shiftTimes_rlc, getLsbD_zero_rotateLeft_succ _ _ hz]
  | rrc =>
    refine ⟨shiftTimes_rrc _ d c, ?_⟩
    rw [shiftTimes_succ_carry, takenOut, shiftTimes_rrc, shiftTimes_rrc, msb_rotateRight_succ _ _ hz]
  | rl => exact shiftTimes_rl _ d c hz
  | rr => exact shiftTimes_rr _ d c hz
  | sla => exact hsla
  | sll =>
    rw [shiftTimes_sll]
    exact hsla
  | sra =>
    refine ⟨shiftTimes_sra _ d c, ?_⟩
    rw [shiftTimes_succ_carry, takenOut, shiftTimes_sra, Nat.add_sub_cancel]
  | srl =>
    refine ⟨shiftTimes_srl _ d c, ?_⟩
    rw [shiftTimes_succ_carry, takenOut, shiftTimes_srl, BitVec.getLsbD_ushiftRight, Nat.add_sub_cancel,
      Nat.add_zero]

/-- What a rotate or shift computes (45_rotate_shift.md R371). -/
theorem shiftOf_spec (op : ShiftOp) (z : Size) {count : Nat} (hcount : 0 < count) (d : BitVec z.bits)
    (c u : Bool) :
    let r := shiftOf op z count d c u
    ShiftSpec op z count d c r.value r.flags.c ∧ ShiftFlags z r.value r.flags.c r.flags := by
  obtain ⟨k, rfl⟩ := Nat.exists_eq_add_one.mpr hcount
  exact ⟨shiftTimes_spec op z k d c, signZero_of z _ rfl rfl, rfl, parityFlag_spec z _ u, rfl, rfl⟩

/-! ### Rotates and shifts as instructions -/

section
variable (s : State) (op : ShiftOp) (z : Size)

theorem exec_formShiftNum (n : BitVec 4) (r : RegOp) :
    exec (formShiftNum op z n r) s = .next (s.shiftReg op z (shiftCount n) (operandSel z r)) := by
  cases op <;> rfl

theorem exec_formShiftA (r : RegOp) :
    exec (formShiftA op z r) s = .next (s.shiftReg op z (shiftCount s.lowA) (operandSel z r)) := by
  cases op <;> rfl

theorem exec_formShiftMem (m : MemOp) :
    exec (formShiftMem op z m) s = .next ((s.advance m).shiftMem op z (s.ea m)) := by
  cases op <;> rfl

end

theorem shiftCount_pos (n : BitVec 4) : 0 < shiftCount n := by
  decide +revert

/-- The count in A is its lower four bits, and 16 where they are 0 (45_rotate_shift.md R370). -/
theorem shiftCount_lowA (s : State) :
    shiftCount s.lowA = if s.regA.toNat % 16 = 0 then 16 else s.regA.toNat % 16 := by
  rw [shiftCount, ← State.lowA_toNat]
  exact if_congr BitVec.toNat_inj.symm rfl rfl

/-- An instruction that is a rotate or shift of a register by `n` places, 16 for 0. -/
theorem shiftReg_completes {s : State} {op : ShiftOp} {z : Size} {n : BitVec 4} {d : RegSel} {i : Instr}
    (hd : d.alignedAt z = true) (hx : exec i s = .next (s.shiftReg op z (shiftCount n) d)) :
    ∃ t v c f, exec i s = .next t ∧ ShiftSpec op z (shiftCount n) (s.readSel z d) s.flags.c v c
      ∧ ShiftFlags z v c f ∧ WroteReg s t z d v f := by
  obtain ⟨hspec, hflags⟩ := shiftOf_spec op z (shiftCount_pos n) (s.readSel z d) s.flags.c (s.freeBit 0)
  exact ⟨_, _, _, _, hx, hspec, hflags, wroteReg_writeSel s _ _ 1 hd⟩

/-- A rotate or shift of memory runs after the addressing mode has stepped, which leaves memory and the carry
flag as they are. -/
theorem shiftMem_completes (s : State) (op : ShiftOp) (z : Size) (m : MemOp) :
    ∃ t v c f, exec (formShiftMem op z m) s = .next t
      ∧ ShiftSpec op z 1 (s.load z (s.ea m)) s.flags.c v c ∧ ShiftFlags z v c f
      ∧ WroteMem (s.afterRead z m) t z (s.ea m) v f := by
  obtain ⟨hspec, hflags⟩ :=
    shiftOf_spec op z Nat.one_pos ((s.advance m).load z (s.ea m)) (s.advance m).flags.c
      ((s.advance m).freeBit 0)
  rw [State.load_advance, State.advance_flags] at hspec hflags
  refine ⟨_, _, _, _, exec_formShiftMem s op z m, hspec, hflags, ?_⟩
  rw [State.shiftMem, State.load_advance, State.advance_flags]
  exact wroteMem_store (s.afterRead z m) (s.ea m) _ _ 1

/-- Settles O55: every form is the one computation, whose closed form is by induction on the count. -/
theorem rotatesAndShifts : Obligations.RotatesAndShifts := by
  intro s op z
  refine ⟨fun n r h => shiftReg_completes (alignedAt_operandSel h) (exec_formShiftNum s op z n r),
    fun r h => ?_, fun m => shiftMem_completes s op z m⟩
  rw [← shiftCount_lowA]
  exact shiftReg_completes (alignedAt_operandSel h) (exec_formShiftA s op z r)

/-! ### RLD and RRD -/

/-- A byte of two digits (45_rotate_shift.md R380, R381). -/
theorem toNat_joinDigits {hi lo : BitVec 4} {p q : Nat} (hp : hi.toNat = p) (hq : lo.toNat = q) :
    (hi ++ lo : BitVec 8).toNat = p * 16 + q := by
  subst hp hq
  rw [BitVec.toNat_append, ← Nat.shiftLeft_add_eq_or_of_lt lo.isLt, Nat.shiftLeft_eq]

theorem toNat_lowDigit (x : BitVec 8) : (x.extractLsb' 0 4).toNat = x.toNat % 16 := by
  simp

theorem toNat_highDigit (x : BitVec 8) : (x.extractLsb' 4 4).toNat = x.toNat / 16 := by
  have hlt := x.isLt
  rw [BitVec.extractLsb'_toNat, Nat.shiftRight_eq_div_pow, Nat.mod_eq_of_lt (by omega)]

/-- An instruction that gives A and the byte of memory new digits: the store leaves A, and the flags are those
of A with the carry flag of before. -/
theorem rotateDigits_completes {s : State} {m : MemOp} {i : Instr} {v w : BitVec 8} {p q : Nat}
    (hx : exec i s = .next ((s.afterRead .byte m).rotateDigits (s.ea m) v w)) (hv : v.toNat = p)
    (hw : w.toNat = q) :
    ∃ (t : State) (v w : BitVec 8), exec i s = .next t ∧ v.toNat = p ∧ w.toNat = q
      ∧ t.regA = v ∧ Stored (s.afterRead .byte m) t .byte (s.ea m) w ∧ SignZero .byte v t.flags
      ∧ (t.flags.v = true ↔ EvenOnes .byte v) ∧ t.flags.h = false ∧ t.flags.n = false
      ∧ t.flags.c = s.flags.c ∧ t.pc = s.pc
      ∧ Frame (s.afterRead .byte m) t [(.byte, selA)] (spanOf 1 (s.ea m)) := by
  have hA := State.readSel_writeSel_same (s.afterRead .byte m) (z := .byte) v (alignedAt_selA .byte)
  have hcarry := congrArg Flags.c (State.afterRead_flags s .byte m)
  have hframe := (frame_writeSel (s.afterRead .byte m) .byte selA v).trans (frame_store _ .byte (s.ea m) w)
  exact ⟨_, v, w, hx, hv, hw, hA, stored_store _ .byte (s.ea m) w, signZero_of .byte v rfl rfl,
    parityEven_iff .byte v, rfl, rfl, hcarry, State.afterRead_pc s .byte m, hframe⟩

/-- Settles O56: both join digits of A, read after the addressing mode has stepped, and of the byte loaded. -/
theorem digitRotates : Obligations.DigitRotates := by
  intro s m
  refine ⟨⟨rfl, rfl⟩, rotateDigits_completes rfl ?rldA ?rldMem,
    rotateDigits_completes rfl ?rrdA ?rrdMem⟩
  case rldA => exact toNat_joinDigits (toNat_highDigit _) (toNat_highDigit _)
  case rldMem => exact toNat_joinDigits (toNat_lowDigit _) (toNat_lowDigit _)
  case rrdA => exact toNat_joinDigits (toNat_highDigit _) (toNat_lowDigit _)
  case rrdMem => exact toNat_joinDigits (toNat_lowDigit _) (toNat_highDigit _)

end Sys2Proof.Machine

/-! PROOF. Jumps, calls and returns (46_jump_call_return.md), and RETI with the interrupt entry it undoes. -/

namespace Sys2Proof.Machine

/-! ### Jumps -/

/-- An address field, extended with zeros, as the model and as the spec write it (46_jump_call_return.md
R390, R393). -/
theorem setWidth_eq_zeros_append {n : Nat} (m : Nat) (a : BitVec n) : a.setWidth (m + n) = 0#m ++ a := by
  refine BitVec.eq_of_toNat_eq ?_
  rw [BitVec.toNat_setWidth_of_le (Nat.le_add_left n m)]
  simp

theorem jumped_jump (s : State) (a : Addr) : Jumped s (s.jump a) a := ⟨rfl, rfl, frame_jump s a⟩

theorem Jumped.refl (s : State) : Jumped s s s.pc := ⟨rfl, rfl, Frame.refl s [] []⟩

/-- A conditional jump: PC is the target, or stays after the instruction. -/
theorem jumped_ite (s : State) (p : Prop) [Decidable p] (a : Addr) :
    Jumped s (if p then s.jump a else s) (if p then a else s.pc) := by
  split
  · exact jumped_jump s a
  · exact .refl s

/-- JP with an addressing mode jumps, or not, after the mode has stepped (log entry 13). -/
theorem jumped_jpMem (s : State) (cc : Cond) (m : MemOp) :
    ∃ t, exec (.jpMem cc m) s = .next t
      ∧ Jumped (s.advance m) t (if condHolds cc s.flags then s.ea m else s.pc) := by
  refine ⟨_, rfl, ?_⟩
  rw [← s.advance_pc m]
  exact jumped_ite (s.advance m) _ (s.ea m)

/-- DJNZ is one write of the register, and then a jump unless 0 is written (46_jump_call_return.md R395). -/
theorem djnz_counts (s : State) {z : Size} {r : RegOp} (d : BitVec 8) (h : r.alignedAt z = true) :
    ∃ t, exec (.djnz z r d) s = .next t ∧ t.readReg z r = s.readReg z r - 1 ∧ t.flags = s.flags
      ∧ t.pc = (if s.readReg z r = 1 then s.pc else s.pc + d.signExtend 32)
      ∧ Frame s t [(z, operandSel z r)] [] := by
  obtain ⟨hval, hflags, hpc, hframe⟩ := wroteReg_writeReg (s.readReg z r - 1) h (rfl : s.flags = s.flags)
  by_cases hone : s.readReg z r = 1
  · have hzero : s.readReg z r - 1 = 0 := by rw [hone, BitVec.sub_self]; rfl
    exact ⟨_, congrArg Host.Outcome.next (if_pos hzero), hval, hflags, (if_pos hone).symm ▸ hpc, hframe⟩
  · have hzero : s.readReg z r - 1 ≠ 0 := fun h0 => hone (sub_eq_zero.mp h0)
    exact ⟨_, congrArg Host.Outcome.next (if_neg hzero), hval, hflags, (if_neg hone).symm,
      hframe.trans (frame_jump _ _)⟩

/-- Settles O59: every jump sets PC on a condition, after its addressing mode or its register has stepped. -/
theorem jumpsLoadTheTarget : Obligations.JumpsLoadTheTarget := by
  intro s
  refine ⟨fun a => ⟨_, rfl, ?abs16⟩, fun a => ⟨_, rfl, ?abs24⟩, jumped_jpMem s,
    fun cc d => ⟨_, rfl, jumped_ite s _ _⟩, fun cc d => ⟨_, rfl, jumped_ite s _ _⟩,
    fun z r d => djnz_counts s d⟩
  case abs16 => exact setWidth_eq_zeros_append 16 a ▸ jumped_jump s _
  case abs24 => exact setWidth_eq_zeros_append 8 a ▸ jumped_jump s _

/-! ### Calls and returns -/

/-- The target of a call is no part of what it pushes. -/
theorem Pushed.jump {s t : State} {z : Size} {v : BitVec z.bits} {a : Addr} (h : Pushed s t z v a)
    (b : Addr) : Pushed s (t.jump b) z v b := by
  obtain ⟨hxsp, hstored, hnoted, -, hflags, hframe⟩ := h
  refine ⟨hxsp, hstored, hnoted, rfl, hflags, ?_⟩
  simpa using hframe.trans (frame_jump t b)

/-- A call pushes the address after it and jumps. -/
theorem pushed_call (s : State) (a : Addr) : Pushed s ((s.push .long s.pc).jump a) .long s.pc a :=
  (pushed_push s .long s.pc).jump a

/-- A return drops the top of the stack and jumps to it. -/
def State.returned (s : State) : State := (s.dropTop .long).jump (s.top .long)

theorem exec_ret (s : State) : exec .ret s = .next s.returned := rfl

theorem returned_pops (s : State) : s.returned.xsp = s.xsp + 4#32
    ∧ Jumped (s.dropTop .long) s.returned (s.load .long s.xsp) :=
  ⟨s.xsp_dropTop .long, jumped_jump (s.dropTop .long) _⟩

/-- CALL with an addressing mode calls, or not, after the mode has stepped (log entry 13). -/
theorem pushed_callMem (s : State) (cc : Cond) (m : MemOp) :
    ∃ t, exec (.callMem cc m) s = .next t
      ∧ (if condHolds cc s.flags then Pushed (s.advance m) t .long s.pc (s.ea m) else t = s.advance m) := by
  refine ⟨_, rfl, ?_⟩
  split
  · exact s.advance_pc m ▸ pushed_call (s.advance m) (s.ea m)
  · rfl

/-- RET cc returns, or does nothing. -/
theorem retCc_pops (s : State) (cc : Cond) :
    ∃ t, exec (.retCc cc) s = .next t
      ∧ (if condHolds cc s.flags then t.xsp = s.xsp + 4#32
            ∧ Jumped (s.dropTop .long) t (s.load .long s.xsp)
          else t = s) := by
  refine ⟨_, rfl, ?_⟩
  split
  · exact returned_pops s
  · rfl

/-- RETD moves XSP on after it returns (46_jump_call_return.md R397). -/
theorem frame_retd (s : State) (v : BitVec 32) :
    Frame (s.loaded .long s.xsp) (s.returned.setXsp v) [wholeOf longXSP] [] := by
  have h := ((frame_dropTop s .long).trans (frame_jump _ (s.top .long))).trans (frame_writeLong _ longXSP v)
  exact h.mono (by simp) (List.Subset.refl _)

/-- RET right after a call that pushes into RAM leaves the address below XSP, and nothing else. -/
theorem State.returned_call (s : State) (a : Addr) (h : RamAt s (spanOf 4 (s.xsp - 4#32))) :
    ((s.push .long s.pc).jump a).returned = s.store .long (s.xsp - 4#32) s.pc := by
  have htop : (s.push .long s.pc).top .long = s.pc := s.top_push .long s.pc h
  have hdrop : (s.push .long s.pc).dropTop .long = s.store .long (s.xsp - 4#32) s.pc :=
    s.dropTop_push (z := .long) s.pc h
  calc ((s.push .long s.pc).jump a).returned
    _ = ((s.push .long s.pc).dropTop .long).jump ((s.push .long s.pc).top .long) := rfl
    _ = (s.store .long (s.xsp - 4#32) s.pc).jump s.pc := by rw [hdrop, htop]
    _ = s.store .long (s.xsp - 4#32) s.pc := rfl

/-- Settles O60: a call is a push and a jump, a return a pop and a jump, and RET right after a call comes to
the store that the call makes. -/
theorem callsAndReturns : Obligations.CallsAndReturns := by
  intro s
  refine ⟨fun a => ⟨_, rfl, ?abs16⟩, fun a => ⟨_, rfl, ?abs24⟩, fun d => ⟨_, rfl, pushed_call s _⟩,
    pushed_callMem s, ⟨_, exec_ret s, returned_pops s⟩, retCc_pops s, fun d => ⟨_, rfl, ?retd⟩,
    fun a hram => ⟨_, s.store .long (s.xsp - 4#32) s.pc, rfl, ?back, rfl, rfl,
      frame_store s .long _ s.pc⟩⟩
  case abs16 => exact setWidth_eq_zeros_append 16 a ▸ pushed_call s _
  case abs24 => exact setWidth_eq_zeros_append 8 a ▸ pushed_call s _
  case retd =>
    obtain ⟨hxsp, hpc, hflags, -⟩ := returned_pops s
    have hraised : s.returned.xsp + d.signExtend 32 = s.xsp + 4#32 + d.signExtend 32 := by rw [hxsp]
    exact ⟨(s.returned.xsp_setXsp _).trans hraised, hpc, hflags, frame_retd s _⟩
  case back => rw [exec_ret, s.returned_call _ hram]

/-! ### RETI -/

/-- A register file kept but for some parts, as another state has it too. -/
theorem RegsKept.of_gpr {s t u : State} {l : List (Size × RegSel)} (h : RegsKept s t l) (hg : u.gpr = t.gpr) :
    RegsKept s u l := by
  intro k j hj hn
  rw [State.regByte, hg]
  exact h k j hj hn

/-- All that RETI changes. -/
theorem State.returnFromException_eq (s : State) :
    let r := s.loaded .word s.xsp
    let sr : BitVec 16 := s.load .word s.xsp
    s.returnFromException = { s.setXsp (s.xsp + 6#32) with
      iff := (s.setSr sr).iff
      rfp := (s.setSr sr).rfp
      flags := (s.setSr sr).flags
      pc := r.load .long (s.xsp + 2#32)
      bus := (r.loaded .long (s.xsp + 2#32)).bus
      intnest := s.intnest - 1#16 } := by
  simp [State.returnFromException, State.jump, State.setSr, State.setXsp, State.writeLong]

theorem State.returnFromException_gpr (s : State) :
    s.returnFromException.gpr = (s.setXsp (s.xsp + 6#32)).gpr := by
  rw [s.returnFromException_eq]

theorem State.returnFromException_pc (s : State) :
    s.returnFromException.pc = (s.loaded .word s.xsp).load .long (s.xsp + 2#32) := by
  rw [s.returnFromException_eq]

theorem State.xsp_returnFromException (s : State) : s.returnFromException.xsp = s.xsp + 6#32 :=
  (State.readLong_of_gpr s.returnFromException_gpr rfl).trans (s.xsp_setXsp (s.xsp + 6#32))

/-- RETI keeps every register but XSP, and makes two reads. -/
theorem returnFromException_kept (s : State) :
    RegsKept s s.returnFromException [wholeOf longXSP]
      ∧ SpaceKept ((s.loaded .word s.xsp).loaded .long (s.xsp + 2#32)) s.returnFromException [] := by
  obtain ⟨hregs, -⟩ := frame_writeLong s longXSP (s.xsp + 6#32)
  refine ⟨hregs.of_gpr s.returnFromException_gpr, ?_⟩
  rw [s.returnFromException_eq]
  exact .of_eq rfl (List.Subset.refl _) _

/-- RETI lowers INTNEST and keeps what no frame holds. -/
theorem returnFromException_rest (s : State) :
    let t := s.returnFromException
    t.intnest = s.intnest - 1#16 ∧ t.dmas = s.dmas ∧ t.dmad = s.dmad ∧ t.dmac = s.dmac ∧ t.dmam = s.dmam
      ∧ t.altFlags = s.altFlags ∧ t.halted = s.halted ∧ t.inputs = s.inputs := by
  rw [s.returnFromException_eq]
  exact ⟨rfl, rfl, rfl, rfl, rfl, rfl, rfl, rfl⟩

/-- Settles O15: the frame's word goes to SR, its long word to PC, and XSP past both. -/
theorem retiRestores : Obligations.RetiRestores := by
  intro s
  obtain ⟨hregs, hspace⟩ := returnFromException_kept s
  obtain ⟨hnest, hrest⟩ := returnFromException_rest s
  exact ⟨_, rfl, s.sr_returnFromException, s.returnFromException_pc, s.xsp_returnFromException, hnest,
    hregs, hspace, hrest⟩

/-! ### RETI after the entry it returns from (60_exceptions.md R425, R429) -/

/-- The value that RAM holds at a location is loaded from it. -/
theorem Holds.load {t : State} {z : Size} {a : Addr} {v : BitVec z.bits} (h : Holds t z a v)
    (hram : RamAt t (spanOf z.bytes a)) : t.load z a = v := by
  obtain ⟨hstored, -⟩ := stored_store t z a v
  have hbytes : ∀ x ∈ spanOf z.bytes a, t.byteAt x = (t.store z a v).byteAt x := by
    intro x hx
    have hk := hram x hx
    obtain ⟨i, hi, rfl⟩ := mem_spanOf.mp hx
    rw [h i hi hk, hstored i hi (by rwa [State.kindAt_store])]
  have hmem : MemoryAt (t.store z a v) (spanOf z.bytes a) := fun x hx => by
    rw [State.kindAt_store]
    exact hram.memoryAt x hx
  rw [State.load_congr (by simp) hmem hbytes]
  exact t.load_store_same z a v hram

/-- SR written with what it holds leaves the state as it is. -/
theorem State.setSr_sr (s : State) : s.setSr s.sr = s := by
  obtain ⟨hiff, hrfp, hflags⟩ := s.sr_fields
  rw [State.setSr, hiff, hrfp, hflags, Flags.ofByte_toByte]

/-- SR has its fixed bits as they are drawn (10_state.md R36). -/
theorem State.sr_fixed (s : State) : (s.sr &&& 0x73D7#16) ||| 0x8800#16 = s.sr := by
  rw [← s.sr_setSr, s.setSr_sr]

/-- Changes of XSP, one after the other, keep every other register. -/
theorem RegsKept.trans_xsp {s t u : State} (h : RegsKept s t [wholeOf longXSP])
    (h' : RegsKept t u [wholeOf longXSP]) : RegsKept s u [wholeOf longXSP] := by
  intro k j hj hn
  have hn' : ¬occupies t.rfp (wholeOf longXSP) k j := hn _ (List.mem_singleton_self _)
  exact (h' k j hj fun _ hp => List.mem_singleton.mp hp ▸ hn').trans (h k j hj hn)

/-- Where XSP is what it was, nothing is left of a change of XSP. -/
theorem RegsKept.of_xsp {s t : State} (h : RegsKept s t [wholeOf longXSP]) (hxsp : t.xsp = s.xsp) :
    RegsKept s t [] := by
  intro k j hj _
  by_cases hk : k = gprIndex s.rfp longXSP
  · subst hk
    exact congrArg (BitVec.extractLsb' (8 * j) 8) hxsp
  · exact h k j hj (by simp [wholeOf, occupies, hk])

/-- From `s` to `t` a frame is pushed, XSP points to its bottom, and the other registers and the memory
outside the frame are kept. -/
structure FrameHeld (s t : State) : Prop where
  xsp : t.xsp = s.xsp - 6#32
  sr : Holds t .word t.xsp s.sr
  pc : Holds t .long (t.xsp + 2#32) s.pc
  regs : RegsKept s t [wholeOf longXSP]
  map : t.bus.map = s.bus.map
  mem : MemKept s t (spanOf 6 (s.xsp - 6#32))

/-- Where an exception's vector is taken, the frame is left on the stack. -/
theorem VectorTaken.frameHeld {pcFirst : Bool} {s t : State} {offset : Nat}
    (h : VectorTaken pcFirst s t offset) : FrameHeld s t := by
  obtain ⟨hxsp, hpc⟩ := h.frame
  obtain ⟨u, ⟨huxsp, hsr, -, hregs, ⟨humap, humem, -⟩, -⟩, -, hbus, hgpr⟩ := h
  have hmap : t.bus.map = u.bus.map := by simp [hbus]
  have hmem : t.bus.mem = u.bus.mem := by simp [hbus]
  refine ⟨hxsp, ?sr, hpc, hregs.of_gpr hgpr, hmap.trans humap, fun a ha => ?mem⟩
  case sr =>
    rw [hxsp, ← huxsp]
    exact hsr.of_bus hmap hmem
  case mem =>
    rw [State.byteAt, hmem]
    exact humem a (huxsp ▸ ha)

/-- A frame in RAM is read back by RETI, which leaves it below XSP. -/
theorem FrameHeld.returnFromException {s t : State} (h : FrameHeld s t)
    (hram : RamAt s (spanOf 6 (s.xsp - 6#32))) :
    let u := t.returnFromException
    u.pc = s.pc ∧ u.sr = s.sr ∧ RegsKept s u [] ∧ MemKept s u (spanOf 6 (s.xsp - 6#32))
      ∧ u.bus.map = s.bus.map := by
  obtain ⟨hxsp, hsr, hpc, hregs, hmap, hmem⟩ := h
  have hramt : RamAt t (spanOf Size.word.bytes t.xsp ++ spanOf Size.long.bytes (t.xsp + 2#32)) := by
    intro a ha
    rw [← spanOf_exceptionFrame, hxsp] at ha
    rw [State.kindAt, hmap]
    exact hram a ha
  obtain ⟨hword, hlong⟩ := List.forall_mem_append.mp hramt
  have hloadSr : t.load .word t.xsp = s.sr := hsr.load hword
  have hloadPc : t.load .long (t.xsp + 2#32) = s.pc := hpc.load hlong
  have hskip : t.loaded .word t.xsp = t := t.loaded_memory (RamAt.memoryAt hword)
  obtain ⟨hregs', hspace⟩ := returnFromException_kept t
  rw [hskip, t.loaded_memory (RamAt.memoryAt hlong)] at hspace
  obtain ⟨hmap', hmem', -⟩ := hspace
  refine ⟨?pc, ?sr, (hregs.trans_xsp hregs').of_xsp ?xsp, fun a ha => ?mem, hmap'.trans hmap⟩
  case pc => rw [t.returnFromException_pc, hskip, hloadPc]
  case sr => rw [t.sr_returnFromException, hloadSr, s.sr_fixed]
  case xsp => rw [t.xsp_returnFromException, hxsp, BitVec.sub_add_cancel]
  case mem => exact (hmem' a (by simp)).trans (hmem a ha)

/-- Settles O13: the entry leaves its frame in RAM, which RETI reads back, and counts INTNEST up by the 1 that
RETI takes off. -/
theorem retiUndoesInterruptEntry : Obligations.RetiUndoesInterruptEntry := by
  intro s t level vector rest hi ha hu hram hstep
  let r : State := { s with inputs := rest }
  obtain rfl : (r.interruptEntry level vector).settled = t :=
    Host.Outcome.next.inj ((step_of_event hu (State.sample_accepted hi ha)).symm.trans hstep)
  have hheld : FrameHeld s (r.interruptEntry level vector).settled :=
    (vectorTaken_interruptEntry r level vector).of_inputs.settled.frameHeld
  obtain ⟨hpc, hsr, hregs, hmem, hmap⟩ := hheld.returnFromException hram
  obtain ⟨-, ⟨hdmas, hdmad, hdmac, hdmam, -⟩, -, -, halt, -⟩ :=
    takeException_kept r true (vectorOffset vector)
  obtain ⟨hnest', hdmas', hdmad', hdmac', hdmam', halt', hhalted', -⟩ :=
    returnFromException_rest (r.interruptEntry level vector).settled
  have hnest : (r.interruptEntry level vector).settled.intnest = s.intnest + 1#16 := rfl
  rw [hnest, BitVec.add_sub_cancel] at hnest'
  exact ⟨_, rfl, hpc, hsr, hnest', halt'.trans halt, hregs, hmem, hmap, hdmas'.trans hdmas,
    hdmad'.trans hdmad, hdmac'.trans hdmac, hdmam'.trans hdmam, hhalted'⟩

end Sys2Proof.Machine

/-! PROOF. Exceptions (60_exceptions.md): what a sampling point takes, which is reset, an accepted request or
a micro DMA transfer, and what it does not. -/

namespace Sys2Proof.Machine

/-! ### Where nothing is sampled, and reset (60_exceptions.md R423, R431) -/

/-- Nothing but a search between its items hides a sampling point (41_block_transfer_search.md R209). -/
theorem State.unsampled_of_not_searching {s : State}
    (h : ∀ z R, s.repeating ≠ some (.cpir z R) ∧ s.repeating ≠ some (.cpdr z R)) :
    s.unsampled = false := by
  unfold State.unsampled
  split
  case h_1 | h_2 | h_5 => rfl
  case h_3 z R hr _ => exact absurd hr (h z R).1
  case h_4 z R hr _ => exact absurd hr (h z R).2

/-- Reset is seen between the items of a search too (log entry 12). -/
theorem State.unsampled_of_reset {s : State} {rest : List Input} (hi : s.inputs = .reset :: rest) :
    s.unsampled = false := by
  unfold State.unsampled
  split
  case h_1 | h_2 | h_5 => rfl
  case h_3 hne => exact absurd hi (hne rest)
  case h_4 hne => exact absurd hi (hne rest)

theorem State.sample_reset {s : State} {rest : List Input} (hi : s.inputs = .reset :: rest) :
    s.sample = .event (State.resetEvent { s with inputs := rest }) := by
  simp [State.sample, hi]

/-- Settles O10: reset is an event at every sampling point and the only one within a search, and it leaves no
noted store to forget. -/
theorem resetOverridesEverything : Obligations.ResetOverridesEverything := by
  intro s rest hi
  exact step_of_event (State.unsampled_of_reset hi) (State.sample_reset hi)

/-! ### Requests (60_exceptions.md R423, R425, R427) -/

/-- The mask is raised to the level above the request's, and stays at 7 (60_exceptions.md R427). -/
theorem raisedMask_toNat (level : BitVec 3) : (raisedMask level).toNat = min (level.toNat + 1) 7 := by
  unfold raisedMask
  split
  case isTrue h => simp [h]
  case isFalse h => bv_omega

/-- All that interrupt entry does beside taking its vector (60_exceptions.md R425). -/
theorem interruptEntry_rest (s : State) (level : BitVec 3) (vector : BitVec 6) :
    let t := s.interruptEntry level vector
    t.iff = raisedMask level ∧ t.intnest = s.intnest + 1#16 ∧ t.halted = false ∧ t.repeating = none
      ∧ t.rfp = s.rfp ∧ t.flags = s.flags ∧ t.altFlags = s.altFlags ∧ t.inputs = s.inputs
      ∧ t.dmas = s.dmas ∧ t.dmad = s.dmad ∧ t.dmac = s.dmac ∧ t.dmam = s.dmam := by
  obtain ⟨hflags, ⟨hdmas, hdmad, hdmac, hdmam, -⟩, -, hrfp, halt, -, hinputs, -⟩ :=
    takeException_kept s true (vectorOffset vector)
  exact ⟨rfl, rfl, rfl, rfl, hrfp, hflags, halt, hinputs, hdmas, hdmad, hdmac, hdmam⟩

/-- Settles O11: outside a search an accepted request is the event of the step, which is interrupt entry. -/
theorem interruptIsEntered : Obligations.InterruptIsEntered := by
  intro s level vector rest hi hlevel hsearch
  let r : State := { s with inputs := rest }
  have ha : s.accepts level = true := decide_eq_true hlevel
  have hstep : step s = .next (r.interruptEntry level vector).settled :=
    step_of_event (State.unsampled_of_not_searching hsearch) (State.sample_accepted hi ha)
  have htaken : VectorTaken true s (r.interruptEntry level vector).settled (4 * vector.toNat) :=
    (vectorTaken_interruptEntry r level vector).of_inputs.settled
  obtain ⟨hiff, hnest, hhalted, hrepeating, hrfp, hflags, halt, hinputs, hdmas, hdmad, hdmac, hdmam⟩ :=
    interruptEntry_rest r level vector
  have hmask : (r.interruptEntry level vector).iff.toNat = min (level.toNat + 1) 7 := by
    rw [hiff, raisedMask_toNat]
  exact ⟨_, hstep, htaken, hmask, hnest, hhalted, hrfp, hflags, halt, hdmas, hdmad, hdmac, hdmam, hinputs,
    hrepeating⟩

/-- A step from a sampling point depends on what comes of the sampling only. -/
theorem step_congr_sample {s t : State} (hs : s.unsampled = false) (ht : t.unsampled = false)
    (h : s.sample = t.sample) : step s = step t := by
  simp [step, State.stepOnce, hs, ht, h]

/-- Settles O12: a sampling point comes to the same with a masked request and with nothing presented. -/
theorem maskedRequestHasNoEffect : Obligations.MaskedRequestHasNoEffect := by
  intro s level vector rest hlevel hsearch
  have hmasked : s.accepts level = false := decide_eq_false (Nat.not_le.mpr hlevel)
  exact step_congr_sample (State.unsampled_of_not_searching hsearch)
    (State.unsampled_of_not_searching hsearch) (State.sample_masked rfl hmasked)

/-! ### Micro DMA (60_exceptions.md R436; log entry 10) -/

/-- One transfer is an event (60_exceptions.md R436). -/
theorem State.sample_microDma {s : State} {n : Fin 8} {mode : DmaMode} {z : Size} {rest : List Input}
    (hi : s.inputs = .microDma n mode z :: rest) :
    s.sample = .event (State.dmaTransfer { s with inputs := rest } n mode z) := by
  simp [State.sample, hi]

section
variable (mode : DmaMode) (z : Size) (a : BitVec 32)

/-- DMASn after a transfer in a mode. -/
def dmaSourceAfter : BitVec 32 :=
  match mode with
  | .memToIoInc | .memToMemInc => a + sizeWord z
  | .memToIoDec | .memToMemDec => a - sizeWord z
  | .counter => a + 1#32
  | .ioToMemInc | .ioToMemDec | .ioToIo => a

/-- DMADn after a transfer in a mode. -/
def dmaDestAfter : BitVec 32 :=
  match mode with
  | .ioToMemInc => a + sizeWord z
  | .ioToMemDec => a - sizeWord z
  | .memToIoInc | .memToIoDec | .memToMemInc | .memToMemDec | .ioToIo | .counter => a

end

section
variable (s : State) (n : Fin 8) (mode : DmaMode) (z : Size)

/-- The part of a transfer that uses the address space: no datum is moved in counter mode. -/
def State.dmaMoved : State := if mode = .counter then s else s.dmaMove n z

/-- A transfer moves its datum, and then each address register of its channel is what the mode makes of it. -/
theorem State.dmaTransfer_eq : s.dmaTransfer n mode z = { s.dmaMoved n mode z with
    dmas := s.dmas.set n (dmaSourceAfter mode z s.dmas[n])
    dmad := s.dmad.set n (dmaDestAfter mode z s.dmad[n]) } := by
  cases mode with
  | ioToIo =>
    simp only [State.dmaTransfer, State.dmaMoved, dmaSourceAfter, dmaDestAfter, Fin.getElem_fin,
      Vector.set_getElem_self]
    rfl
  | _ =>
    simp [State.dmaTransfer, State.dmaMoved, State.dmaStepSource, State.dmaStepDest, State.dmaMove,
      dmaSourceAfter, dmaDestAfter, BitVec.sub_eq_add_neg]

/-- Where no datum is moved, nothing is read and nothing stored. -/
theorem State.dmaMoved_counter : s.dmaMoved n .counter z = s := if_pos rfl

theorem State.dmaMoved_of_ne_counter (h : mode ≠ .counter) : s.dmaMoved n mode z = s.dmaMove n z :=
  if_neg h

/-- The move of a datum keeps all but the address space. -/
theorem State.dmaMoved_kept : let t := s.dmaMoved n mode z
    t.gpr = s.gpr ∧ t.pc = s.pc ∧ t.sr = s.sr ∧ ControlKept s t ∧ ModeKept s t := by
  intro t
  unfold t State.dmaMoved
  split
  all_goals exact ⟨rfl, rfl, rfl, ⟨rfl, rfl, rfl, rfl, rfl⟩, rfl, rfl, rfl, rfl, rfl, rfl⟩

end

/-- The noted stores are forgotten, and nothing else of the address space. -/
theorem SpaceKept.settled {s t : State} {l : List Nat} (h : SpaceKept s t l) : SpaceKept s t.settled l := by
  obtain ⟨hmap, hmem, hseen, -⟩ := h
  exact ⟨hmap, hmem, hseen, List.forall_mem_nil _⟩

/-- The move of a datum is a read and then a store. -/
theorem dmaMove_stored (s : State) (n : Fin 8) (z : Size) :
    Stored (s.loaded z s.dmas[n]) (s.dmaMove n z) z s.dmad[n] (s.load z s.dmas[n])
      ∧ SpaceKept (s.loaded z s.dmas[n]) (s.dmaMove n z) (spanOf z.bytes s.dmad[n]) :=
  ⟨stored_store _ z _ _, spaceKept_store _ z _ _⟩

/-- Settles O17: a transfer is a read and a store, or nothing in counter mode, and then a write of the address
registers of its own channel. -/
theorem microDmaTransfers : Obligations.MicroDmaTransfers := by
  intro s n mode z rest hi hu
  let r : State := { s with inputs := rest }
  have hstep : step s = .next (r.dmaTransfer n mode z).settled := step_of_event hu (State.sample_microDma hi)
  obtain ⟨hgpr, hpc, hsr, ⟨-, -, hdmac, hdmam, hnest⟩, -, -, halt, hhalted, hinputs, hrepeating⟩ :=
    r.dmaMoved_kept n mode z
  rw [r.dmaTransfer_eq n mode z] at hstep
  refine ⟨_, hstep, ?source, ?dest, fun hc => ?moved, fun hc => ?counted, fun k hk => ?others,
    hdmac, hdmam, hnest, hpc, hsr, ?regs, halt, hhalted, hinputs, hrepeating⟩
  case source => exact Vector.getElem_set_self _
  case dest => exact Vector.getElem_set_self _
  case moved =>
    obtain ⟨hstored, hspace⟩ := dmaMove_stored r n z
    rw [r.dmaMoved_of_ne_counter n mode z hc]
    exact ⟨hstored, hspace.settled⟩
  case counted =>
    subst hc
    rw [r.dmaMoved_counter n z]
    exact (SpaceKept.refl r []).settled
  case regs => exact RegsKept.of_gpr (t := s) (fun _ _ _ _ => rfl) hgpr
  case others => exact ⟨getElem_set_of_ne _ _ hk, getElem_set_of_ne _ _ hk⟩

end Sys2Proof.Machine
